-- ==== Sys2Proof/Word.lean ====
section
/-! DEFINITION. The word types of the LTC7871 PEC codec (spec/00_scope.md R5, R6) and what a caller can
put in front of the block: a 29-bit function-port request (R70) or a 24-bit wire frame (R61, R62). -/

namespace Sys2Proof

/-- A byte: `DATA_W` = `PEC_W` = `VAL_W` = 8 (R5). Bit 0 is the least significant bit (R6). -/
abbrev Byte := BitVec 8

/-- A device register address: `ADDR_W` = 7 (R5, R40). -/
abbrev Addr := BitVec 7

/-- A function-port request `REQ = fn[4:0] ++ a[7:0] ++ b[7:0] ++ c[7:0]` (R70). -/
abbrev ReqWord := BitVec 29

/-- A wire frame `F[23:0]`, `FRAME_W` = 24 (R5, R41). -/
abbrev FrameWord := BitVec 24

/-- One thing presented to the block: a request on the function port (table format `FN29`), or a whole
frame of the wire (table formats `RD24` and `WR24`). -/
inductive PortItem where
  | req (w : ReqWord)
  | wire (f : FrameWord)
deriving DecidableEq, Repr

end Sys2Proof
end

