-- ==== Sys2Proof/Syntax.lean ====
section
/-! DEFINITION. The instructions: one constructor for each row of spec/opcode_table.json. Each operand is
the field the row names (spec/30_encoding.md R71); bits the row ignores are no operand. -/

namespace Sys2Proof

/-- An operation of the block, or a whole frame of the wire. -/
inductive Instr where
  -- PEC family (R101 to R106)
  | pecSeed
  | pecBit (din : Bool)
  | pecByte (byte : Byte)
  | pecTbl (index : Byte)
  | pecCalc (cmd data : Byte)
  -- frame family (R120 to R126)
  | cmdPack (addr : Addr) (dir : Bool)
  | cmdUnpack (cmd : Byte)
  | frameWr (addr : Addr) (data : Byte)
  | frameRdcmd (addr : Addr)
  | frameChk (addr : Addr) (dataRx checkRx : Byte)
  | write (addr : Addr) (data : Byte)
  | read (addr : Addr)
  -- field converters (R141 to R148)
  | sm7Dec (byte : Byte)
  | sm7Enc (val : Byte)
  | b5Dec (byte : Byte)
  | b5Enc (val : Byte)
  | rawDec (byte : Byte)
  | rawEnc (byte : Byte)
  -- flag unpackers (R161 to R166)
  | flgFault (byte : Byte)
  | flgOc (byte : Byte)
  | flgNoc (byte : Byte)
  | flgStatus (byte : Byte)
  | flgConfig1 (byte : Byte)
  | flgConfig2 (byte : Byte)
  -- typed register access, generic (R180, R181)
  | get (addr : Addr)
  | set (addr : Addr) (val : Byte)
  -- the getters spelled under the default REGTAB (R182 to R192)
  | getMfrFault
  | getMfrOcFault
  | getMfrNocFault
  | getMfrStatus
  | getMfrConfig1
  | getMfrConfig2
  | getMfrChipCtrl
  | getIdacVlow
  | getIdacVhigh
  | getIdacSetcur
  | getMfrSsfm
  -- the setters spelled under the default REGTAB (R193 to R197)
  | setMfrChipCtrl (val : Byte)
  | setIdacVlow (val : Byte)
  | setIdacVhigh (val : Byte)
  | setIdacSetcur (val : Byte)
  | setMfrSsfm (val : Byte)
  -- the read frames of the wire (R62, R126)
  | rd24MfrFault (data check : Byte)
  | rd24MfrOcFault (data check : Byte)
  | rd24MfrNocFault (data check : Byte)
  | rd24MfrStatus (data check : Byte)
  | rd24MfrConfig1 (data check : Byte)
  | rd24MfrConfig2 (data check : Byte)
  | rd24MfrChipCtrl (data check : Byte)
  | rd24IdacVlow (data check : Byte)
  | rd24IdacVhigh (data check : Byte)
  | rd24IdacSetcur (data check : Byte)
  | rd24MfrSsfm (data check : Byte)
  -- the write frames of the wire (R61, R125)
  | wr24MfrChipCtrl (data check : Byte)
  | wr24IdacVlow (data check : Byte)
  | wr24IdacVhigh (data check : Byte)
  | wr24IdacSetcur (data check : Byte)
  | wr24MfrSsfm (data check : Byte)
deriving DecidableEq, Repr

end Sys2Proof
end

