-- ==== Sys2Proof/WellFormed.lean ====
section
/-! DEFINITION. Which instructions are the row's own spelling of their word. Every operand has the width
of its field, so the only check is the overlap that R72 builds into the table: the words of the generic
`GET` and `SET` at a spelled address are the words of the spelled row (log entry 8). -/

namespace Sys2Proof

/-- `i` is the row that its own word spells: not the generic `GET` of an address that has a `GET.<reg>`
row (0x01 to 0x0B), nor the generic `SET` of one that has a `SET.<reg>` row (0x07 to 0x0B). -/
def Instr.wellFormed (i : Instr) : Bool :=
  match i with
  | .get addr => !(decide (0x01 ≤ addr) && decide (addr ≤ 0x0B))
  | .set addr _ => !(decide (0x07 ≤ addr) && decide (addr ≤ 0x0B))
  | _ => true

end Sys2Proof
end

