-- ==== Sys2Proof/Decode.lean ====
section
/-! DEFINITION. From bits to an instruction and back, written from spec/30_encoding.md R60 to R73 and the
`match` and `mask` columns of spec/opcode_table.json. -/

namespace Sys2Proof

/-! ### Fields of a request and of a frame -/

/-- `fn[4:0]` = `REQ[28:24]` (R70). -/
def Decode.fn (w : ReqWord) : BitVec 5 := w.extractLsb' 24 5

/-- The operand byte `a[7:0]` = `REQ[23:16]` (R70). -/
def Decode.opA (w : ReqWord) : Byte := w.extractLsb' 16 8

/-- The operand byte `b[7:0]` = `REQ[15:8]` (R70). -/
def Decode.opB (w : ReqWord) : Byte := w.extractLsb' 8 8

/-- The operand byte `c[7:0]` = `REQ[7:0]` (R70). -/
def Decode.opC (w : ReqWord) : Byte := w.extractLsb' 0 8

/-- A register address `a[6:0]` (R71); `a[7]` is ignored (R70). -/
def Decode.addrA (w : ReqWord) : Addr := w.extractLsb' 16 7

/-- `din` = `a[0]` (R71). -/
def Decode.bitA (w : ReqWord) : Bool := w.getLsbD 16

/-- `dir` = `b[0]` (R71). -/
def Decode.bitB (w : ReqWord) : Bool := w.getLsbD 8

/-- The command byte `F[23:16]` (R61, R62). -/
def Decode.frameCmd (f : FrameWord) : Byte := f.extractLsb' 16 8

/-- The data byte `F[15:8]` (R61, R62). -/
def Decode.frameData (f : FrameWord) : Byte := f.extractLsb' 8 8

/-- The check byte `F[7:0]` (R61, R62). -/
def Decode.frameCheck (f : FrameWord) : Byte := f.extractLsb' 0 8

/-! ### The spelled rows -/

/-- The row that spells a `GET` of this address: a `GET.<reg>` row where the table has one (R72, R182 to
R192), else the generic row (R180). -/
def spellGet (addr : Addr) : Instr :=
  match addr with
  | 0x01#7 => .getMfrFault
  | 0x02#7 => .getMfrOcFault
  | 0x03#7 => .getMfrNocFault
  | 0x04#7 => .getMfrStatus
  | 0x05#7 => .getMfrConfig1
  | 0x06#7 => .getMfrConfig2
  | 0x07#7 => .getMfrChipCtrl
  | 0x08#7 => .getIdacVlow
  | 0x09#7 => .getIdacVhigh
  | 0x0A#7 => .getIdacSetcur
  | 0x0B#7 => .getMfrSsfm
  | _ => .get addr

/-- The row that spells a `SET` of this address: a `SET.<reg>` row where the table has one (R72, R193 to
R197), else the generic row (R181). -/
def spellSet (addr : Addr) (val : Byte) : Instr :=
  match addr with
  | 0x07#7 => .setMfrChipCtrl val
  | 0x08#7 => .setIdacVlow val
  | 0x09#7 => .setIdacVhigh val
  | 0x0A#7 => .setIdacSetcur val
  | 0x0B#7 => .setMfrSsfm val
  | _ => .set addr val

/-- The spelling the decoder answers for the word of `i`: `i` itself, but for a generic `GET` or `SET`
that a more specific row spells. -/
def Instr.spelled (i : Instr) : Instr :=
  match i with
  | .get addr => spellGet addr
  | .set addr val => spellSet addr val
  | i => i

/-! ### The decoder -/

/-- Why bits are no instruction. -/
inductive DecodeError where
  /-- one of the unassigned function codes 0x05, 0x06, 0x07, 0x0F, 0x16, 0x17 (R73 (a)) -/
  | unassignedFn (fn : BitVec 5)
  /-- a wire frame whose command byte has no row in the opcode table (R72) -/
  | noSuchFrame (cmd : Byte)
  /-- a byte string that is neither a 3-byte frame nor a 4-byte request (R74) -/
  | badLength (n : Nat)
  /-- a 4-byte string whose first byte is wider than the 5 bits of `fn` (R70) -/
  | fnTooWide (b : Byte)
deriving DecidableEq, Repr

/-- Decode a function-port request (R71). The words of a spelled `GET` or `SET` decode to the spelled
row (log entry 8). -/
def decodeReq (w : ReqWord) : Except DecodeError Instr :=
  match Decode.fn w with
  | 0x00#5 => .ok .pecSeed
  | 0x01#5 => .ok (.pecBit (Decode.bitA w))
  | 0x02#5 => .ok (.pecByte (Decode.opA w))
  | 0x03#5 => .ok (.pecTbl (Decode.opA w))
  | 0x04#5 => .ok (.pecCalc (Decode.opA w) (Decode.opB w))
  | 0x08#5 => .ok (.cmdPack (Decode.addrA w) (Decode.bitB w))
  | 0x09#5 => .ok (.cmdUnpack (Decode.opA w))
  | 0x0A#5 => .ok (.frameWr (Decode.addrA w) (Decode.opB w))
  | 0x0B#5 => .ok (.frameRdcmd (Decode.addrA w))
  | 0x0C#5 => .ok (.frameChk (Decode.addrA w) (Decode.opB w) (Decode.opC w))
  | 0x0D#5 => .ok (.write (Decode.addrA w) (Decode.opB w))
  | 0x0E#5 => .ok (.read (Decode.addrA w))
  | 0x10#5 => .ok (.sm7Dec (Decode.opA w))
  | 0x11#5 => .ok (.sm7Enc (Decode.opA w))
  | 0x12#5 => .ok (.b5Dec (Decode.opA w))
  | 0x13#5 => .ok (.b5Enc (Decode.opA w))
  | 0x14#5 => .ok (.rawDec (Decode.opA w))
  | 0x15#5 => .ok (.rawEnc (Decode.opA w))
  | 0x18#5 => .ok (.flgFault (Decode.opA w))
  | 0x19#5 => .ok (.flgOc (Decode.opA w))
  | 0x1A#5 => .ok (.flgNoc (Decode.opA w))
  | 0x1B#5 => .ok (.flgStatus (Decode.opA w))
  | 0x1C#5 => .ok (.flgConfig1 (Decode.opA w))
  | 0x1D#5 => .ok (.flgConfig2 (Decode.opA w))
  | 0x1E#5 => .ok (spellGet (Decode.addrA w))
  | 0x1F#5 => .ok (spellSet (Decode.addrA w) (Decode.opB w))
  | fn => .error (.unassignedFn fn)

/-- Decode a frame of the wire: the sixteen frames of the opcode table (R72). -/
def decodeFrame (f : FrameWord) : Except DecodeError Instr :=
  match Decode.frameCmd f with
  | 0x03#8 => .ok (.rd24MfrFault (Decode.frameData f) (Decode.frameCheck f))
  | 0x05#8 => .ok (.rd24MfrOcFault (Decode.frameData f) (Decode.frameCheck f))
  | 0x07#8 => .ok (.rd24MfrNocFault (Decode.frameData f) (Decode.frameCheck f))
  | 0x09#8 => .ok (.rd24MfrStatus (Decode.frameData f) (Decode.frameCheck f))
  | 0x0B#8 => .ok (.rd24MfrConfig1 (Decode.frameData f) (Decode.frameCheck f))
  | 0x0D#8 => .ok (.rd24MfrConfig2 (Decode.frameData f) (Decode.frameCheck f))
  | 0x0F#8 => .ok (.rd24MfrChipCtrl (Decode.frameData f) (Decode.frameCheck f))
  | 0x11#8 => .ok (.rd24IdacVlow (Decode.frameData f) (Decode.frameCheck f))
  | 0x13#8 => .ok (.rd24IdacVhigh (Decode.frameData f) (Decode.frameCheck f))
  | 0x15#8 => .ok (.rd24IdacSetcur (Decode.frameData f) (Decode.frameCheck f))
  | 0x17#8 => .ok (.rd24MfrSsfm (Decode.frameData f) (Decode.frameCheck f))
  | 0x0E#8 => .ok (.wr24MfrChipCtrl (Decode.frameData f) (Decode.frameCheck f))
  | 0x10#8 => .ok (.wr24IdacVlow (Decode.frameData f) (Decode.frameCheck f))
  | 0x12#8 => .ok (.wr24IdacVhigh (Decode.frameData f) (Decode.frameCheck f))
  | 0x14#8 => .ok (.wr24IdacSetcur (Decode.frameData f) (Decode.frameCheck f))
  | 0x16#8 => .ok (.wr24MfrSsfm (Decode.frameData f) (Decode.frameCheck f))
  | cmd => .error (.noSuchFrame cmd)

/-- Decode what stands in front of the block. -/
def decode (p : PortItem) : Except DecodeError Instr :=
  match p with
  | .req w => decodeReq w
  | .wire f => decodeFrame f

/-- The port item a byte string spells: three bytes are a frame, command byte first (R41), four bytes a
request, `fn` first (log entry 1). -/
def portItemOfBytes (bs : List Byte) : Except DecodeError PortItem :=
  match bs with
  | [cmd, data, check] => .ok (.wire (cmd ++ data ++ check))
  | [f, a, b, c] => if f.toNat < 32 then .ok (.req (f.setWidth 5 ++ a ++ b ++ c)) else .error (.fnTooWide f)
  | bs => .error (.badLength bs.length)

/-- Decode any byte string. -/
def decodeBytes (bs : List Byte) : Except DecodeError Instr :=
  match portItemOfBytes bs with
  | .ok p => decode p
  | .error e => .error e

/-! ### The encoder -/

/-- `REQ = fn ++ a ++ b ++ c` (R70). -/
def Decode.mkReq (fn : BitVec 5) (a b c : Byte) : ReqWord := fn ++ a ++ b ++ c

/-- `F = command ++ data ++ check` (R61, R62). -/
def Decode.mkFrame (cmd data check : Byte) : FrameWord := cmd ++ data ++ check

/-- A register address in its operand byte; the ignored bit 7 is written 0. -/
def Decode.addrByte (addr : Addr) : Byte := addr.setWidth 8

/-- A single bit in its operand byte; the ignored bits are written 0. -/
def Decode.bitByte (b : Bool) : Byte := (BitVec.ofBool b).setWidth 8

/-- The word of an instruction (R61, R62, R71), every ignored bit 0. -/
def encode (i : Instr) : PortItem :=
  match i with
  | .pecSeed => .req (Decode.mkReq 0x00 0#8 0#8 0#8)
  | .pecBit din => .req (Decode.mkReq 0x01 (Decode.bitByte din) 0#8 0#8)
  | .pecByte x => .req (Decode.mkReq 0x02 x 0#8 0#8)
  | .pecTbl x => .req (Decode.mkReq 0x03 x 0#8 0#8)
  | .pecCalc x y => .req (Decode.mkReq 0x04 x y 0#8)
  | .cmdPack addr dir => .req (Decode.mkReq 0x08 (Decode.addrByte addr) (Decode.bitByte dir) 0#8)
  | .cmdUnpack x => .req (Decode.mkReq 0x09 x 0#8 0#8)
  | .frameWr addr y => .req (Decode.mkReq 0x0A (Decode.addrByte addr) y 0#8)
  | .frameRdcmd addr => .req (Decode.mkReq 0x0B (Decode.addrByte addr) 0#8 0#8)
  | .frameChk addr y z => .req (Decode.mkReq 0x0C (Decode.addrByte addr) y z)
  | .write addr y => .req (Decode.mkReq 0x0D (Decode.addrByte addr) y 0#8)
  | .read addr => .req (Decode.mkReq 0x0E (Decode.addrByte addr) 0#8 0#8)
  | .sm7Dec x => .req (Decode.mkReq 0x10 x 0#8 0#8)
  | .sm7Enc x => .req (Decode.mkReq 0x11 x 0#8 0#8)
  | .b5Dec x => .req (Decode.mkReq 0x12 x 0#8 0#8)
  | .b5Enc x => .req (Decode.mkReq 0x13 x 0#8 0#8)
  | .rawDec x => .req (Decode.mkReq 0x14 x 0#8 0#8)
  | .rawEnc x => .req (Decode.mkReq 0x15 x 0#8 0#8)
  | .flgFault x => .req (Decode.mkReq 0x18 x 0#8 0#8)
  | .flgOc x => .req (Decode.mkReq 0x19 x 0#8 0#8)
  | .flgNoc x => .req (Decode.mkReq 0x1A x 0#8 0#8)
  | .flgStatus x => .req (Decode.mkReq 0x1B x 0#8 0#8)
  | .flgConfig1 x => .req (Decode.mkReq 0x1C x 0#8 0#8)
  | .flgConfig2 x => .req (Decode.mkReq 0x1D x 0#8 0#8)
  | .get addr => .req (Decode.mkReq 0x1E (Decode.addrByte addr) 0#8 0#8)
  | .set addr val => .req (Decode.mkReq 0x1F (Decode.addrByte addr) val 0#8)
  | .getMfrFault => .req (Decode.mkReq 0x1E 0x01 0#8 0#8)
  | .getMfrOcFault => .req (Decode.mkReq 0x1E 0x02 0#8 0#8)
  | .getMfrNocFault => .req (Decode.mkReq 0x1E 0x03 0#8 0#8)
  | .getMfrStatus => .req (Decode.mkReq 0x1E 0x04 0#8 0#8)
  | .getMfrConfig1 => .req (Decode.mkReq 0x1E 0x05 0#8 0#8)
  | .getMfrConfig2 => .req (Decode.mkReq 0x1E 0x06 0#8 0#8)
  | .getMfrChipCtrl => .req (Decode.mkReq 0x1E 0x07 0#8 0#8)
  | .getIdacVlow => .req (Decode.mkReq 0x1E 0x08 0#8 0#8)
  | .getIdacVhigh => .req (Decode.mkReq 0x1E 0x09 0#8 0#8)
  | .getIdacSetcur => .req (Decode.mkReq 0x1E 0x0A 0#8 0#8)
  | .getMfrSsfm => .req (Decode.mkReq 0x1E 0x0B 0#8 0#8)
  | .setMfrChipCtrl val => .req (Decode.mkReq 0x1F 0x07 val 0#8)
  | .setIdacVlow val => .req (Decode.mkReq 0x1F 0x08 val 0#8)
  | .setIdacVhigh val => .req (Decode.mkReq 0x1F 0x09 val 0#8)
  | .setIdacSetcur val => .req (Decode.mkReq 0x1F 0x0A val 0#8)
  | .setMfrSsfm val => .req (Decode.mkReq 0x1F 0x0B val 0#8)
  | .rd24MfrFault data check => .wire (Decode.mkFrame 0x03 data check)
  | .rd24MfrOcFault data check => .wire (Decode.mkFrame 0x05 data check)
  | .rd24MfrNocFault data check => .wire (Decode.mkFrame 0x07 data check)
  | .rd24MfrStatus data check => .wire (Decode.mkFrame 0x09 data check)
  | .rd24MfrConfig1 data check => .wire (Decode.mkFrame 0x0B data check)
  | .rd24MfrConfig2 data check => .wire (Decode.mkFrame 0x0D data check)
  | .rd24MfrChipCtrl data check => .wire (Decode.mkFrame 0x0F data check)
  | .rd24IdacVlow data check => .wire (Decode.mkFrame 0x11 data check)
  | .rd24IdacVhigh data check => .wire (Decode.mkFrame 0x13 data check)
  | .rd24IdacSetcur data check => .wire (Decode.mkFrame 0x15 data check)
  | .rd24MfrSsfm data check => .wire (Decode.mkFrame 0x17 data check)
  | .wr24MfrChipCtrl data check => .wire (Decode.mkFrame 0x0E data check)
  | .wr24IdacVlow data check => .wire (Decode.mkFrame 0x10 data check)
  | .wr24IdacVhigh data check => .wire (Decode.mkFrame 0x12 data check)
  | .wr24IdacSetcur data check => .wire (Decode.mkFrame 0x14 data check)
  | .wr24MfrSsfm data check => .wire (Decode.mkFrame 0x16 data check)

/-! ### The rows of the opcode table -/

/-- A row's format with its `match` and `mask`, over `REQ` or over `F`. -/
inductive Row where
  | fn29 (pat mask : ReqWord)
  | frame24 (pat mask : FrameWord)
deriving DecidableEq, Repr

/-- The row of spec/opcode_table.json that an instruction stands for. -/
def Instr.row (i : Instr) : Row :=
  match i with
  | .pecSeed => .fn29 0x00000000 0x1F000000
  | .pecBit _ => .fn29 0x01000000 0x1F000000
  | .pecByte _ => .fn29 0x02000000 0x1F000000
  | .pecTbl _ => .fn29 0x03000000 0x1F000000
  | .pecCalc _ _ => .fn29 0x04000000 0x1F000000
  | .cmdPack _ _ => .fn29 0x08000000 0x1F000000
  | .cmdUnpack _ => .fn29 0x09000000 0x1F000000
  | .frameWr _ _ => .fn29 0x0A000000 0x1F000000
  | .frameRdcmd _ => .fn29 0x0B000000 0x1F000000
  | .frameChk _ _ _ => .fn29 0x0C000000 0x1F000000
  | .write _ _ => .fn29 0x0D000000 0x1F000000
  | .read _ => .fn29 0x0E000000 0x1F000000
  | .sm7Dec _ => .fn29 0x10000000 0x1F000000
  | .sm7Enc _ => .fn29 0x11000000 0x1F000000
  | .b5Dec _ => .fn29 0x12000000 0x1F000000
  | .b5Enc _ => .fn29 0x13000000 0x1F000000
  | .rawDec _ => .fn29 0x14000000 0x1F000000
  | .rawEnc _ => .fn29 0x15000000 0x1F000000
  | .flgFault _ => .fn29 0x18000000 0x1F000000
  | .flgOc _ => .fn29 0x19000000 0x1F000000
  | .flgNoc _ => .fn29 0x1A000000 0x1F000000
  | .flgStatus _ => .fn29 0x1B000000 0x1F000000
  | .flgConfig1 _ => .fn29 0x1C000000 0x1F000000
  | .flgConfig2 _ => .fn29 0x1D000000 0x1F000000
  | .get _ => .fn29 0x1E000000 0x1F000000
  | .set _ _ => .fn29 0x1F000000 0x1F000000
  | .getMfrFault => .fn29 0x1E010000 0x1F7F0000
  | .getMfrOcFault => .fn29 0x1E020000 0x1F7F0000
  | .getMfrNocFault => .fn29 0x1E030000 0x1F7F0000
  | .getMfrStatus => .fn29 0x1E040000 0x1F7F0000
  | .getMfrConfig1 => .fn29 0x1E050000 0x1F7F0000
  | .getMfrConfig2 => .fn29 0x1E060000 0x1F7F0000
  | .getMfrChipCtrl => .fn29 0x1E070000 0x1F7F0000
  | .getIdacVlow => .fn29 0x1E080000 0x1F7F0000
  | .getIdacVhigh => .fn29 0x1E090000 0x1F7F0000
  | .getIdacSetcur => .fn29 0x1E0A0000 0x1F7F0000
  | .getMfrSsfm => .fn29 0x1E0B0000 0x1F7F0000
  | .setMfrChipCtrl _ => .fn29 0x1F070000 0x1F7F0000
  | .setIdacVlow _ => .fn29 0x1F080000 0x1F7F0000
  | .setIdacVhigh _ => .fn29 0x1F090000 0x1F7F0000
  | .setIdacSetcur _ => .fn29 0x1F0A0000 0x1F7F0000
  | .setMfrSsfm _ => .fn29 0x1F0B0000 0x1F7F0000
  | .rd24MfrFault _ _ => .frame24 0x030000 0xFF0000
  | .rd24MfrOcFault _ _ => .frame24 0x050000 0xFF0000
  | .rd24MfrNocFault _ _ => .frame24 0x070000 0xFF0000
  | .rd24MfrStatus _ _ => .frame24 0x090000 0xFF0000
  | .rd24MfrConfig1 _ _ => .frame24 0x0B0000 0xFF0000
  | .rd24MfrConfig2 _ _ => .frame24 0x0D0000 0xFF0000
  | .rd24MfrChipCtrl _ _ => .frame24 0x0F0000 0xFF0000
  | .rd24IdacVlow _ _ => .frame24 0x110000 0xFF0000
  | .rd24IdacVhigh _ _ => .frame24 0x130000 0xFF0000
  | .rd24IdacSetcur _ _ => .frame24 0x150000 0xFF0000
  | .rd24MfrSsfm _ _ => .frame24 0x170000 0xFF0000
  | .wr24MfrChipCtrl _ _ => .frame24 0x0E0000 0xFF0000
  | .wr24IdacVlow _ _ => .frame24 0x100000 0xFF0000
  | .wr24IdacVhigh _ _ => .frame24 0x120000 0xFF0000
  | .wr24IdacSetcur _ _ => .frame24 0x140000 0xFF0000
  | .wr24MfrSsfm _ _ => .frame24 0x160000 0xFF0000

/-- A word belongs to a row: its masked bits are the row's pattern. -/
def Row.covers (r : Row) (p : PortItem) : Bool :=
  match r, p with
  | .fn29 pat mask, .req w => w &&& mask == pat
  | .frame24 pat mask, .wire f => f &&& mask == pat
  | _, _ => false

/-! ### The host's view of the decoder -/

/-- The port item of an opcode-table word: 24 bits are a frame, 32 (the 29 of a request in whole bytes)
a request, whose three bits above the 29 are 0 (log entry 1). -/
def portItemOfTable (nbits w : Nat) : Option PortItem :=
  match nbits with
  | 24 => if w < 2 ^ 24 then some (.wire (BitVec.ofNat 24 w)) else none
  | 29 | 32 => if w < 2 ^ 29 then some (.req (BitVec.ofNat 29 w)) else none
  | _ => none

/-- The instruction the decoder reads from an opcode-table word. -/
def decodeTableWord (nbits w : Nat) : Option Instr :=
  match portItemOfTable nbits w with
  | some p => (decode p).toOption
  | none => none

end Sys2Proof
end

