-- ==== Sys2Proof/Config.lean ====
section
/-! DEFINITION. What an implementation fixes (the parameters of spec/00_scope.md R5, the tables `T`,
`REGTAB` and `FLAG_MAP`) and the free values that no file of the spec fixes. -/

namespace Sys2Proof

/-! ### The PEC constants, the direction bit and the value ranges (R5) -/

/-- `PEC_POLY`: the low 8 coefficients of `x^8 + x^2 + x + 1` (R5, R100). -/
def Config.pecPoly : Byte := 0x07

/-- `PEC_INIT`, the seed (R5, R100). -/
def Config.pecInit : Byte := 0x41

/-- `READ_BIT`: the direction bit of a read (R5, R60). -/
def Config.readBit : Bool := true

/-- `WRITE_BIT`: the direction bit of a write (R5, R60). -/
def Config.writeBit : Bool := false

/-- `REG_LO`: the lowest populated register address (R5, R40). -/
def Config.regLo : Addr := 0x01

/-- `REG_HI`: the highest populated register address (R5, R40). -/
def Config.regHi : Addr := 0x0B

/-- `SM7_MIN` (R5, R141). -/
def Config.sm7Min : Int := -63

/-- `SM7_MAX` (R5, R141). -/
def Config.sm7Max : Int := 63

/-- `B5_MIN` (R5, R144). -/
def Config.b5Min : Int := 0

/-- `B5_MAX` (R5, R144). -/
def Config.b5Max : Int := 31

/-- `B5_BIAS` (R5, R145). -/
def Config.b5Bias : Int := 16

/-- `SCK_HZ`, the adapter's clock rate; no rule depends on it (R5, R239). -/
def Config.sckHz : Nat := 1000000

/-- `SPI_MODE`; no rule depends on it (R5, R45). -/
def Config.spiMode : Nat := 0

/-- `T_SETTLE`, OPEN: the spec gives no value and no rule reads it (R5, R233; log entry 11). -/
opaque Config.tSettle : Nat

/-- The byte the device drives in the `n`-th exchange that nothing else decides: the unconstrained
oracle of R46. A free value (no body): every byte is possible (log entry 3). -/
opaque Config.busByte : Nat → Byte

/-! ### The parameters that a model takes as arguments (R5, spec/93 section 1) -/

/-- `SM7_VARIANT`: the reading of the negative band (R5, R141; the second is spec/93 U2). -/
inductive Sm7Variant where
  | signMagnitude
  | twosLow6
deriving DecidableEq, Repr

/-- `B5_VARIANT`: the reading of the upper band (R5, R144; the second is spec/93 U3). -/
inductive B5Variant where
  | document
  | offsetBinary
deriving DecidableEq, Repr

/-- The implementation parameters of R5 on which a result depends, besides `REGTAB` and `FLAG_MAP`
(which R20 counts as state). -/
structure Params where
  /-- `PEC_POLY` -/
  pecPoly : Byte
  /-- `PEC_INIT` -/
  pecInit : Byte
  /-- `PEC_MSB_FIRST`: each byte enters the division most significant bit first (spec/93 U16). -/
  pecMsbFirst : Bool
  /-- `PEC_XOROUT` (spec/93 U16). -/
  pecXorOut : Byte
  /-- `SM7_VARIANT` (spec/93 U2) -/
  sm7Variant : Sm7Variant
  /-- `B5_VARIANT` (spec/93 U3) -/
  b5Variant : B5Variant
  /-- `FAIL_CLOSED` (spec/93 U17, R128) -/
  failClosed : Bool
  /-- `RD_FILL`: the byte driven while receiving (spec/93 U13, R129). -/
  rdFill : Byte
deriving DecidableEq, Repr

/-- The value this hardware gives every parameter (R5). -/
def Params.hardware : Params where
  pecPoly := Config.pecPoly
  pecInit := Config.pecInit
  pecMsbFirst := true
  pecXorOut := 0x00
  sm7Variant := .signMagnitude
  b5Variant := .document
  failClosed := false
  rdFill := 0x00

/-! ### The PEC table -/

/-- The contents of the read-only memory `T`, as R104 prints them: row `r`, column `c` is
`T[16 * r + c]`. -/
def Config.pecTable : List Byte :=
  [0x00, 0x07, 0x0E, 0x09, 0x1C, 0x1B, 0x12, 0x15, 0x38, 0x3F, 0x36, 0x31, 0x24, 0x23, 0x2A, 0x2D] ++
  [0x70, 0x77, 0x7E, 0x79, 0x6C, 0x6B, 0x62, 0x65, 0x48, 0x4F, 0x46, 0x41, 0x54, 0x53, 0x5A, 0x5D] ++
  [0xE0, 0xE7, 0xEE, 0xE9, 0xFC, 0xFB, 0xF2, 0xF5, 0xD8, 0xDF, 0xD6, 0xD1, 0xC4, 0xC3, 0xCA, 0xCD] ++
  [0x90, 0x97, 0x9E, 0x99, 0x8C, 0x8B, 0x82, 0x85, 0xA8, 0xAF, 0xA6, 0xA1, 0xB4, 0xB3, 0xBA, 0xBD] ++
  [0xC7, 0xC0, 0xC9, 0xCE, 0xDB, 0xDC, 0xD5, 0xD2, 0xFF, 0xF8, 0xF1, 0xF6, 0xE3, 0xE4, 0xED, 0xEA] ++
  [0xB7, 0xB0, 0xB9, 0xBE, 0xAB, 0xAC, 0xA5, 0xA2, 0x8F, 0x88, 0x81, 0x86, 0x93, 0x94, 0x9D, 0x9A] ++
  [0x27, 0x20, 0x29, 0x2E, 0x3B, 0x3C, 0x35, 0x32, 0x1F, 0x18, 0x11, 0x16, 0x03, 0x04, 0x0D, 0x0A] ++
  [0x57, 0x50, 0x59, 0x5E, 0x4B, 0x4C, 0x45, 0x42, 0x6F, 0x68, 0x61, 0x66, 0x73, 0x74, 0x7D, 0x7A] ++
  [0x89, 0x8E, 0x87, 0x80, 0x95, 0x92, 0x9B, 0x9C, 0xB1, 0xB6, 0xBF, 0xB8, 0xAD, 0xAA, 0xA3, 0xA4] ++
  [0xF9, 0xFE, 0xF7, 0xF0, 0xE5, 0xE2, 0xEB, 0xEC, 0xC1, 0xC6, 0xCF, 0xC8, 0xDD, 0xDA, 0xD3, 0xD4] ++
  [0x69, 0x6E, 0x67, 0x60, 0x75, 0x72, 0x7B, 0x7C, 0x51, 0x56, 0x5F, 0x58, 0x4D, 0x4A, 0x43, 0x44] ++
  [0x19, 0x1E, 0x17, 0x10, 0x05, 0x02, 0x0B, 0x0C, 0x21, 0x26, 0x2F, 0x28, 0x3D, 0x3A, 0x33, 0x34] ++
  [0x4E, 0x49, 0x40, 0x47, 0x52, 0x55, 0x5C, 0x5B, 0x76, 0x71, 0x78, 0x7F, 0x6A, 0x6D, 0x64, 0x63] ++
  [0x3E, 0x39, 0x30, 0x37, 0x22, 0x25, 0x2C, 0x2B, 0x06, 0x01, 0x08, 0x0F, 0x1A, 0x1D, 0x14, 0x13] ++
  [0xAE, 0xA9, 0xA0, 0xA7, 0xB2, 0xB5, 0xBC, 0xBB, 0x96, 0x91, 0x98, 0x9F, 0x8A, 0x8D, 0x84, 0x83] ++
  [0xDE, 0xD9, 0xD0, 0xD7, 0xC2, 0xC5, 0xCC, 0xCB, 0xE6, 0xE1, 0xE8, 0xEF, 0xFA, 0xFD, 0xF4, 0xF3]

/-! ### The register table REGTAB -/

/-- The names of the device registers: the eleven of R28, and any other name, since R5 leaves the name
column of `REGTAB` open (log entry 23). -/
inductive RegName where
  | mfrFault
  | mfrOcFault
  | mfrNocFault
  | mfrStatus
  | mfrConfig1
  | mfrConfig2
  | mfrChipCtrl
  | idacVlow
  | idacVhigh
  | idacSetcur
  | mfrSsfm
  /-- a name outside R28's default table -/
  | other (name : String)
deriving DecidableEq, Repr

/-- The access mode of a device register (R28). -/
inductive Access where
  | readOnly
  | readWrite
deriving DecidableEq, Repr

/-- The registers whose byte `FLAG_MAP` gives a meaning (R160): the six that have an unpacker of their own
(R29 to R34), and any other register a `REGTAB` gives kind FLAGS (R5; log entry 23). -/
inductive FlagReg where
  | fault
  | oc
  | noc
  | status
  | config1
  | config2
  /-- a register that is not one of the six -/
  | other (name : RegName)
deriving DecidableEq, Repr

/-- The value-encoding kind of a device register (R28, R149). Kind `FLAGS` carries the register whose
unpacker reads the byte, so that `DEC` is total. -/
inductive Kind where
  | raw
  | sm7
  | b5
  | flags (r : FlagReg)
deriving DecidableEq, Repr

/-- One row of `REGTAB` (R28). -/
structure RegRow where
  addr : Addr
  name : RegName
  access : Access
  kind : Kind
deriving DecidableEq, Repr

/-- The default `REGTAB` (R28). Its addresses, three of its names, its access modes and the kinds of
the two raw registers are PRESUMED by the spec itself (log entry 9). -/
def Config.regtab : List RegRow :=
  [⟨0x01, .mfrFault, .readOnly, .flags .fault⟩,
   ⟨0x02, .mfrOcFault, .readOnly, .flags .oc⟩,
   ⟨0x03, .mfrNocFault, .readOnly, .flags .noc⟩,
   ⟨0x04, .mfrStatus, .readOnly, .flags .status⟩,
   ⟨0x05, .mfrConfig1, .readOnly, .flags .config1⟩,
   ⟨0x06, .mfrConfig2, .readOnly, .flags .config2⟩,
   ⟨0x07, .mfrChipCtrl, .readWrite, .raw⟩,
   ⟨0x08, .idacVlow, .readWrite, .sm7⟩,
   ⟨0x09, .idacVhigh, .readWrite, .sm7⟩,
   ⟨0x0A, .idacSetcur, .readWrite, .b5⟩,
   ⟨0x0B, .mfrSsfm, .readWrite, .raw⟩]

/-! ### The flag map FLAG_MAP -/

/-- The flag names: those of the default map (R29 to R34), and any other name, since R5 leaves the flag
name of each bit open and spec/91 N2 says not to take the list of categories as complete (log entry 23).
A channel is numbered from 0: `overcurrent k` is the spec's `Overcurrent<k+1>`, at bit `k` of its register
by default (R30, R31). -/
inductive Flag where
  | overTemp
  | vrefFault
  | v5Undervoltage
  | drvccUndervoltage
  | vhighUndervoltage
  | vhighOvervoltage
  | vlowOvervoltage
  | overcurrent (channel : Fin 6)
  | negOvercurrent (channel : Fin 6)
  | powerGood
  | maxCurrent
  | softStartDone
  | setcurWarning
  | buckMode
  | spreadSpectrum
  | hiZ
  | dcm
  | burst
  /-- a name outside the default map -/
  | other (name : String)
deriving DecidableEq, Repr

/-- `FLAG_MAP` (R5, R160): for each flag register the flag at each bit (entry `i` is bit `i`; an entry
that is `none`, or past the end, is an unmapped bit), and the two selector tables of MFR_CONFIG1 (entry
`c` is the value of code `c`; a code whose entry is `none`, or past the end, is reserved, R167). The
`ILIM` field is bits 2:0 by the source; the place of the 2-bit `DRVCC` field is the map's (R33). A value
is any rational number of its unit (log entry 23). -/
structure FlagMap where
  fault : List (Option Flag)
  oc : List (Option Flag)
  noc : List (Option Flag)
  status : List (Option Flag)
  config1 : List (Option Flag)
  config2 : List (Option Flag)
  /-- the rows of flag registers other than the six -/
  others : List (RegName × List (Option Flag))
  /-- the current-sense thresholds, in millivolts -/
  ilim : List (Option Rat)
  /-- the DRVcc tiers, in volts -/
  drvcc : List (Option Rat)
  /-- the lower bit of the `DRVCC` field in MFR_CONFIG1 -/
  drvccLo : Nat
deriving DecidableEq, Repr

/-- The default `FLAG_MAP` (R29 to R34). Nearly all of it is PRESUMED by the spec itself (log entry
10). -/
def Config.flagMap : FlagMap where
  fault := [some .overTemp, some .vrefFault, some .v5Undervoltage, some .drvccUndervoltage,
    some .vhighUndervoltage, some .vhighOvervoltage, some .vlowOvervoltage, none]
  oc := [some (.overcurrent 0), some (.overcurrent 1), some (.overcurrent 2), some (.overcurrent 3),
    some (.overcurrent 4), some (.overcurrent 5), none, none]
  noc := [some (.negOvercurrent 0), some (.negOvercurrent 1), some (.negOvercurrent 2),
    some (.negOvercurrent 3), some (.negOvercurrent 4), some (.negOvercurrent 5), none, none]
  status := [some .powerGood, some .maxCurrent, some .softStartDone, none, none, none, none, none]
  config1 := [none, none, none, none, none, some .setcurWarning, none, none]
  config2 := [some .buckMode, some .spreadSpectrum, some .hiZ, some .dcm, some .burst, none, none, none]
  others := []
  ilim := [some 10, some 20, some 30, some 40, some 50]
  drvcc := [some 5, some 8, some 10]
  drvccLo := 3

end Sys2Proof
end

