-- ==== Sys2Proof/Machine/State.lean ====
section
/-! DEFINITION. The state of the machine as plain data: what spec/10_state.md R20 lists, the response of the
function port (R70), the reference device (R47), the parameters of R5, and the model's own fields for the
caller and the oracle (INVENTORY.md, heading State). -/

namespace Sys2Proof.Machine

/-- An event of the history `HIST` (R45, R211, R221). -/
inductive Event where
  /-- `Select`: chip-select asserted -/
  | select
  /-- `Xfer(out, in)`: one byte driven, one byte received -/
  | xfer (out inn : Byte)
  /-- `Deselect`: chip-select released -/
  | deselect
  /-- `Diag(ChecksumMismatch, addr, data_rx, check_rx, check_computed)` -/
  | diag (addr : Addr) (dataRx checkRx checkComputed : Byte)
deriving DecidableEq, Repr

/-- What the current-sense threshold selector reports: exactly one value, in millivolts, or a reserved
code (R167). -/
inductive IlimValue where
  | millivolts (v : Rat)
  | reserved (code : BitVec 3)
deriving DecidableEq, Repr

/-- What the DRVcc tier selector reports: exactly one value, in volts, or a reserved code (R167). -/
inductive DrvccValue where
  | volts (v : Rat)
  | reserved (code : BitVec 2)
deriving DecidableEq, Repr

/-- The result proper of an operation, beside its packing in `y` (R71, R168). A flag set is a list
without repeats, lower bit first (log entry 19). -/
inductive Decoded where
  /-- no result: reset, a refused request, or data withheld under `FAIL_CLOSED` -/
  | nothing
  /-- a byte of the PEC unit, a command byte, a field byte or a raw byte -/
  | byte (b : Byte)
  /-- the pair that `CMD.UNPACK` returns (R121) -/
  | command (addr : Addr) (dir : Bool)
  /-- a 24-bit frame (R122, R125) -/
  | frame (f : FrameWord)
  /-- a value of a signed or biased field (R141, R145) -/
  | value (v : Int)
  /-- a set of active flags (R160) -/
  | flags (fs : List Flag)
  /-- the set and the two selectors of MFR_CONFIG1 (R165) -/
  | config1 (fs : List Flag) (ilim : IlimValue) (drvcc : DrvccValue)
deriving DecidableEq, Repr

/-- The response of the function port (R70), with the result proper beside it. -/
structure Response where
  y : BitVec 24
  flag : Bool
  refused : Bool
  decoded : Decoded
deriving DecidableEq, Repr

/-- The device register space `DEV` (R40, R47): (address, byte) pairs, addresses strictly rising, no
entry equal to what an unlisted address reads as. -/
abbrev Memory := List Host.Cell

/-- The reference device of R47: its registers, and the bytes it has been sent since `Select`, first
byte first. -/
structure RefDevice where
  mem : Memory
  seen : List Byte
deriving DecidableEq, Repr

/-- What answers on the wire: the unconstrained oracle of R46 or the reference device of R47. -/
inductive Attachment where
  | oracle
  | reference
deriving DecidableEq, Repr

/-- The machine. -/
structure State where
  /-- `PEC`, the accumulator (R21) -/
  pec : Byte
  /-- `T`, the PEC table (R22) -/
  tbl : List Byte
  /-- `CMD`, the command byte (R23) -/
  cmd : Byte
  /-- `DAT`, the data byte to send (R23) -/
  dat : Byte
  /-- `CHK`, the check byte to send (R23) -/
  chk : Byte
  /-- `BITCNT`, the bits of the frame already shifted (R23, R26) -/
  bitcnt : BitVec 5
  /-- `RXDATA`, the data byte received (R24) -/
  rxdata : Byte
  /-- `RXCHK`, the check byte received (R24) -/
  rxchk : Byte
  /-- `MISMATCH` (R24, R27) -/
  mismatch : Bool
  /-- `REGTAB` (R28) -/
  regtab : List RegRow
  /-- `FLAG_MAP` (R29 to R34) -/
  flagMap : FlagMap
  /-- `HIST`, oldest event first (R20, R45) -/
  hist : List Event
  /-- the parameters of R5; no step writes them (log entry 13) -/
  params : Params
  /-- the response to the last request served (R70, log entry 5) -/
  resp : Response
  /-- what the caller has presented and the block has not served, first to be served first (log
  entry 2) -/
  pending : List PortItem
  /-- what answers on the wire (log entry 12) -/
  attached : Attachment
  /-- bytes the oracle answers next, chosen from outside (log entry 3) -/
  script : List Byte
  /-- how many bytes the oracle has answered (log entry 3) -/
  drawn : Nat
  /-- the reference device (R47, log entry 12) -/
  dev : RefDevice
deriving DecidableEq, Repr

/-- What stops the machine with a fault. The block has none: its one exception is non-fatal (R210, R212)
and a request outside its interface is answered with `refused` = 1 (R70). The type is closed and empty,
so no step can raise one (safe). -/
inductive Fault where
deriving DecidableEq, Repr

/-- What the model gives no meaning. -/
inductive Refusal where
  /-- An instruction whose arm of `exec` has no meaning yet; no arm raises it (safe). -/
  | notModelled (mnemonic : String)
deriving DecidableEq, Repr

/-- The machine right after reset: every working register at the value of its rule, `HIST` empty, the
constants in place (R230). The other fields' values are the model's (log entries 2, 3, 5, 12, 13). -/
def State.reset : State where
  pec := 0x41
  tbl := Config.pecTable
  cmd := 0x00
  dat := 0x00
  chk := 0x00
  bitcnt := 0
  rxdata := 0x00
  rxchk := 0x00
  mismatch := false
  regtab := Config.regtab
  flagMap := Config.flagMap
  hist := []
  params := Params.hardware
  resp := ⟨0, false, false, .nothing⟩
  pending := []
  attached := .oracle
  script := []
  drawn := 0
  dev := ⟨[], []⟩

end Sys2Proof.Machine
end

