-- ==== Sys2Proof/Machine/PecUnit.lean ====
section
/-! DEFINITION. The check byte, in each form the spec gives it (spec/40_pec.md): the bit-serial divider that
the machine runs (R102, R103, R106), the lookup table (R104, R106), the schedule alongside the wire (R109)
and the long division over GF(2) that defines it (R100). -/

namespace Sys2Proof.Machine

/-- One step of the bit-serial division (R102): the accumulator `p` takes the message bit `din`. -/
def pecBitStep (P : Params) (p : Byte) (din : Bool) : Byte :=
  let fb := p.getLsbD 7 ^^ din
  (p <<< 1) ^^^ (if fb then P.pecPoly else 0x00#8)

/-- The division over a run of message bits, first bit first. -/
def pecBitsStep (P : Params) (p : Byte) (bits : List Bool) : Byte :=
  bits.foldl (pecBitStep P) p

/-- The bits of a byte in the order they enter the division: most significant first under
`PEC_MSB_FIRST` (R100, R103). -/
def pecBitOrder (P : Params) (b : Byte) : List Bool :=
  if P.pecMsbFirst then [b.getLsbD 7, b.getLsbD 6, b.getLsbD 5, b.getLsbD 4, b.getLsbD 3, b.getLsbD 2, b.getLsbD 1, b.getLsbD 0]
  else [b.getLsbD 0, b.getLsbD 1, b.getLsbD 2, b.getLsbD 3, b.getLsbD 4, b.getLsbD 5, b.getLsbD 6, b.getLsbD 7]

/-- Eight steps on one byte (R103). -/
def pecByteStep (P : Params) (p b : Byte) : Byte := pecBitsStep P p (pecBitOrder P b)

/-- The check byte of a command byte and a data byte, bit-serial realisation (R106): seed, two bytes,
and the final exclusive-or `PEC_XOROUT` (0x00 on this hardware, R100). -/
def pecCheck (P : Params) (cmd data : Byte) : Byte :=
  pecByteStep P (pecByteStep P P.pecInit cmd) data ^^^ P.pecXorOut

/-- The table that the parameters define: `T[i]` is the accumulator after the eight steps on `i` from
0x00 (R104). -/
def pecTableOf (P : Params) : List Byte :=
  (List.range 256).map fun i => pecByteStep P 0x00#8 (BitVec.ofNat 8 i)

/-- `T[i]` (R104). -/
def pecLookup (tbl : List Byte) (i : Byte) : Byte := tbl.getD i.toNat 0x00#8

/-- The check byte, table realisation (R106): `T[T[seed ^ cmd] ^ data]`. -/
def pecCheckByTable (P : Params) (tbl : List Byte) (cmd data : Byte) : Byte :=
  pecLookup tbl (pecLookup tbl (P.pecInit ^^^ cmd) ^^^ data) ^^^ P.pecXorOut

/-- The message bits of a frame in wire order, `F[23]` down to `F[8]` (R109). -/
def frameMessageBits (f : FrameWord) : List Bool :=
  (List.range 16).map fun i => f.getLsbD (23 - i)

/-- The accumulator that runs alongside the wire: seed at `Select`, one step a clock on `F[23]` to `F[8]`
(R109). -/
def pecAlongWire (P : Params) (f : FrameWord) : Byte :=
  pecBitsStep P P.pecInit (frameMessageBits f) ^^^ P.pecXorOut

/-- Long division over GF(2): from coefficient `8 + n - 1` down to 8, cancel a set coefficient of the
dividend by the generator `x^8 + poly` shifted under it. The remainder is left in bits 7:0. -/
def gf2Reduce (poly : Byte) (n : Nat) (v : BitVec 24) : BitVec 24 :=
  match n with
  | 0 => v
  | n + 1 =>
    gf2Reduce poly n (if v.getLsbD (8 + n) then v ^^^ (((0x100#24) ||| poly.setWidth 24) <<< n) else v)

/-- The remainder of `m(x) * x^8` divided by `x^8 + poly(x)` for a message `m` of 16 bits (R100, R104). -/
def gf2Remainder (poly : Byte) (m : BitVec 16) : Byte :=
  (gf2Reduce poly 16 (m ++ 0x00#8)).setWidth 8

/-- A frame is well-formed: its check byte is that of its command and data bytes (R62). -/
def frameWellFormed (P : Params) (f : FrameWord) : Bool :=
  f.extractLsb' 0 8 == pecCheck P (f.extractLsb' 16 8) (f.extractLsb' 8 8)

end Sys2Proof.Machine
end

