-- ==== Sys2Proof/Machine/Operands.lean ====
section
/-! DEFINITION. The operand forms: command bytes and frames (spec/41_frame_transactions.md), the field
converters (spec/42_field_converters.md), the register table (spec/10_state.md R28) and the packing of a
result in `y` (spec/30_encoding.md R71). All are pure functions. -/

namespace Sys2Proof.Machine

/-! ### Command bytes and frames -/

/-- `u8((addr << 1) | dir)` (R68, R120). -/
def packCmd (addr : Addr) (dir : Bool) : Byte :=
  (addr.setWidth 8 <<< 1) ||| (BitVec.ofBool dir).setWidth 8

/-- `addr` = `cmd[7:1]` (R121). -/
def cmdAddr (cmd : Byte) : Addr := cmd.extractLsb' 1 7

/-- `dir` = `cmd[0]` (R121). -/
def cmdDir (cmd : Byte) : Bool := cmd.getLsbD 0

/-- `CMD ++ DAT ++ CHK` (R122). -/
def joinFrame (cmd data check : Byte) : FrameWord := cmd ++ data ++ check

/-! ### Field converters -/

/-- `clamp(v, lo, hi)` (R7). -/
def clamp (v lo hi : Int) : Int := if v < lo then lo else if hi < v then hi else v

/-- `s8(b)` (R6): the byte as a two's-complement integer. -/
def s8 (b : Byte) : Int := b.toInt

/-- `u8(v)` (R6): the integer modulo 256. -/
def u8 (v : Int) : Byte := BitVec.ofInt 8 v

/-- The value of a sign-magnitude byte (R141; the other variant is spec/93 U2). Bit 7 is ignored. -/
def sm7Decode (variant : Sm7Variant) (bits : Byte) : Int :=
  let mag := bits.extractLsb' 0 6
  if bits.getLsbD 6 then
    match variant with
    | .signMagnitude => -(mag.toNat : Int)
    | .twosLow6 => -(((64 - mag.toNat) % 64 : Nat) : Int)
  else mag.toNat

/-- The sign-magnitude byte of a value (R142; the other variant is spec/93 U2), after the clamp of R140. -/
def sm7Encode (variant : Sm7Variant) (val : Byte) : Byte :=
  let v := clamp (s8 val) Config.sm7Min Config.sm7Max
  if 0 ≤ v then u8 v
  else
    match variant with
    | .signMagnitude => 0x40#8 ||| u8 (-v)
    | .twosLow6 => 0x40#8 ||| u8 ((64 + v) % 64)

/-- The value of a biased byte (R145; the other variant is spec/93 U3). Bits 7:5 are ignored. -/
def b5Decode (variant : B5Variant) (bits : Byte) : Int :=
  let nib := bits.extractLsb' 0 4
  if bits.getLsbD 4 then nib.toNat
  else
    match variant with
    | .document => Config.b5Bias + ((~~~nib + 1#4).toNat : Int)
    | .offsetBinary => Config.b5Bias + (nib.toNat : Int)

/-- The biased byte of a value (R144; the other variant is spec/93 U3), after the clamp of R140. -/
def b5Encode (variant : B5Variant) (val : Byte) : Byte :=
  let v := clamp (s8 val) Config.b5Min Config.b5Max
  match variant with
  | .document =>
    if Config.b5Bias ≤ v then (~~~(u8 v) + 1#8) &&& 0x0F#8
    else (u8 v &&& 0x0F#8) ||| 0x10#8
  | .offsetBinary => u8 ((v - Config.b5Bias) % 32)

/-- The value of a raw byte (R147). -/
def rawDecode (byte : Byte) : Byte := byte

/-- The byte of a raw operand (R148); never clamped. -/
def rawEncode (byte : Byte) : Byte := byte

/-- `ENC(kind, val)` (R149). There is none for kind FLAGS. -/
def encodeKind (P : Params) (kind : Kind) (val : Byte) : Option Byte :=
  match kind with
  | .raw => some (rawEncode val)
  | .sm7 => some (sm7Encode P.sm7Variant val)
  | .b5 => some (b5Encode P.b5Variant val)
  | .flags _ => none

/-! ### The register table -/

/-- The row of an address, if it is in `REGTAB` (R28, R73 (b)). -/
def findReg (tab : List RegRow) (addr : Addr) : Option RegRow :=
  tab.find? fun r => r.addr == addr

/-- The row of an address that `REGTAB` marks read-write (R73 (c)). -/
def findWritable (tab : List RegRow) (addr : Addr) : Option RegRow :=
  (findReg tab addr).filter fun r => r.access == .readWrite

/-- `addr(<name>)`: the address of a register name, for the pseudo-operations of R75. -/
def regAddr (tab : List RegRow) (name : RegName) : Option Addr :=
  (tab.find? fun r => r.name == name).map RegRow.addr

/-! ### Packing a result in `y` (R71); unnamed bits are 0 (R70) -/

/-- `y[7:0]` = a byte. -/
def yByte (b : Byte) : BitVec 24 := b.setWidth 24

/-- `y[15:8]` and `y[7:0]`. -/
def yPair (hi lo : Byte) : BitVec 24 := 0x00#8 ++ hi ++ lo

/-- `y[6:0]` = `addr`, `y[8]` = `dir`. -/
def yCommand (addr : Addr) (dir : Bool) : BitVec 24 := 0#15 ++ BitVec.ofBool dir ++ 0#1 ++ addr

/-- `y[12:0]` = a decoded value, `y[23:16]` = the raw data byte. -/
def yTyped (raw : Byte) (value : BitVec 13) : BitVec 24 := raw ++ 0#3 ++ value

end Sys2Proof.Machine
end

