-- ==== Sys2Proof/Machine/Flags.lean ====
section
/-! DEFINITION. The flags: the one flag of the block (spec/10_state.md R27), and the flag unpackers with the
two selectors (spec/43_flag_unpack.md R160 to R167), with the dispatch by kind (R149). -/

namespace Sys2Proof.Machine

/-- `MISMATCH`: the computed check byte differs from the received one, over all 8 bits (R124, R211). -/
def checkMismatch (computed received : Byte) : Bool := computed != received

/-- The row of `FLAG_MAP` of a flag register. -/
def flagRow (fm : FlagMap) (r : FlagReg) : List (Option Flag) :=
  match r with
  | .fault => fm.fault
  | .oc => fm.oc
  | .noc => fm.noc
  | .status => fm.status
  | .config1 => fm.config1
  | .config2 => fm.config2
  | .other name =>
    match fm.others.find? fun row => row.1 == name with
    | some row => row.2
    | none => []

/-- `FLAG_MAP(r)(i)`: the flag at bit `i`, if the bit is mapped (R160). -/
def flagAt (fm : FlagMap) (r : FlagReg) (i : Nat) : Option Flag := (flagRow fm r).getD i none

/-- `i` is in `SEL(r)`: a bit of a selector field of MFR_CONFIG1 (R160, R165). -/
def isSelectorBit (fm : FlagMap) (r : FlagReg) (i : Nat) : Bool :=
  match r with
  | .config1 => decide (i < 3) || (i == fm.drvccLo || i == fm.drvccLo + 1)
  | _ => false

/-- Bit `i` of `b` reports a flag: it is mapped, no selector bit, and set (R160). -/
def flagActive (fm : FlagMap) (r : FlagReg) (b : Byte) (i : Nat) : Bool :=
  !isSelectorBit fm r i && ((flagAt fm r i).isSome && b.getLsbD i)

/-- The active-flag mask (R160). -/
def flagMask (fm : FlagMap) (r : FlagReg) (b : Byte) : Byte :=
  (List.range 8).foldl (fun m i => if flagActive fm r b i then m ||| BitVec.twoPow 8 i else m) 0x00#8

/-- The set of active flags (R160), without repeats, lower bit first (log entry 19). -/
def activeFlags (fm : FlagMap) (r : FlagReg) (b : Byte) : List Flag :=
  ((List.range 8).filterMap fun i => if flagActive fm r b i then flagAt fm r i else none).foldr List.insert []

/-- The `ILIM` code, bits 2:0 (R33). -/
def ilimCode (b : Byte) : BitVec 3 := b.extractLsb' 0 3

/-- The `DRVCC` code, two bits from the place `FLAG_MAP` gives (R33, R165). -/
def drvccCode (fm : FlagMap) (b : Byte) : BitVec 2 := b.extractLsb' fm.drvccLo 2

/-- `SELECT_ILIM` (R167). -/
def selectIlim (fm : FlagMap) (code : BitVec 3) : IlimValue :=
  match fm.ilim.getD code.toNat none with
  | some v => .millivolts v
  | none => .reserved code

/-- `SELECT_DRVCC` (R167). -/
def selectDrvcc (fm : FlagMap) (code : BitVec 2) : DrvccValue :=
  match fm.drvcc.getD code.toNat none with
  | some v => .volts v
  | none => .reserved code

/-- A decoded register value: its packing in `y[12:0]` (R71) and the result proper. -/
structure TypedValue where
  bits : BitVec 13
  decoded : Decoded
deriving DecidableEq, Repr

/-- The flag unpacker of a register (R160 to R166). -/
def unpackFlags (fm : FlagMap) (r : FlagReg) (b : Byte) : TypedValue :=
  match r with
  | .config1 =>
    ⟨drvccCode fm b ++ ilimCode b ++ flagMask fm .config1 b,
      .config1 (activeFlags fm .config1 b) (selectIlim fm (ilimCode b)) (selectDrvcc fm (drvccCode fm b))⟩
  | r => ⟨(flagMask fm r b).setWidth 13, .flags (activeFlags fm r b)⟩

/-- `DEC(kind, byte)` (R149). -/
def decodeKind (P : Params) (fm : FlagMap) (kind : Kind) (b : Byte) : TypedValue :=
  match kind with
  | .raw => ⟨(rawDecode b).setWidth 13, .byte (rawDecode b)⟩
  | .sm7 => ⟨(u8 (sm7Decode P.sm7Variant b)).setWidth 13, .value (sm7Decode P.sm7Variant b)⟩
  | .b5 => ⟨(u8 (b5Decode P.b5Variant b)).setWidth 13, .value (b5Decode P.b5Variant b)⟩
  | .flags r => unpackFlags fm r b

end Sys2Proof.Machine
end

