-- ==== Sys2Proof/Machine/Memory.lean ====
section
/-! DEFINITION. The device register space as a canonical list of cells: one address of 7 bits, one byte a
cell, no wider access (spec/20_memory.md R40 to R43). It is the storage of the reference device (R47). -/

namespace Sys2Proof.Machine

/-- What an address that memory does not list reads as (log entry 12). -/
def Memory.unlisted : Byte := 0x00#8

/-- The byte at an address. -/
def Memory.read (m : Memory) (a : Nat) : Byte :=
  match m with
  | [] => Memory.unlisted
  | (k, v) :: rest => if k = a then v else Memory.read rest a

/-- Put a cell at the head of a memory whose addresses are all larger; a byte equal to the unlisted one
is not listed. -/
def Memory.cons (a : Nat) (b : Byte) (m : Memory) : Memory :=
  if b = Memory.unlisted then m else (a, b) :: m

/-- Store a byte, keeping the canonical form. -/
def Memory.write (m : Memory) (a : Nat) (b : Byte) : Memory :=
  match m with
  | [] => Memory.cons a b []
  | (k, v) :: rest =>
    if k = a then Memory.cons a b rest
    else if a < k then Memory.cons a b ((k, v) :: rest)
    else (k, v) :: Memory.write rest a b

/-- The canonical form: every listed address is at least `lo`, addresses rise strictly, and no entry
holds the unlisted byte. -/
def Memory.wfFrom (lo : Nat) (m : Memory) : Bool :=
  match m with
  | [] => true
  | (k, v) :: rest => decide (lo ≤ k) && (decide (v ≠ Memory.unlisted) && Memory.wfFrom (k + 1) rest)

/-- Memory is in its canonical form. -/
def Memory.wf (m : Memory) : Bool := Memory.wfFrom 0 m

end Sys2Proof.Machine
end

