-- ==== Sys2Proof/Machine/Ops.lean ====
section
/-! DEFINITION. The operations the meanings share: the function port's response (spec/30_encoding.md R70), the
reference device and the transport (spec/20_memory.md R45 to R47), the packers, the checker and the one
exception (spec/41_frame_transactions.md R122 to R126, spec/60_exceptions.md R211), the two transactions, and
the reset event (spec/70_reset_and_hazards.md R230). -/

namespace Sys2Proof.Machine

/-! ### The function port and the history -/

/-- Answer a request: `y`, `flag`, `refused` = 0, and the result proper (R70). -/
def respond (y : BitVec 24) (flag : Bool) (decoded : Decoded) (s : State) : State :=
  { s with resp := ⟨y, flag, false, decoded⟩ }

/-- Refuse a request: `refused` = 1, `y` = 0, `flag` = 0, and nothing else changes (R70, R73). -/
def refuse (s : State) : State := { s with resp := ⟨0, false, true, .nothing⟩ }

/-- `emit E` (R7): append an event to the history. -/
def emit (e : Event) (s : State) : State := { s with hist := s.hist ++ [e] }

/-! ### The PEC unit's register -/

/-- `PEC <- p` (R101 to R103). -/
def setPec (p : Byte) (s : State) : State := { s with pec := p }

/-- `PEC.CALC cmd, data` as the other operations use it: the check byte goes to `PEC` (R106). -/
def calcPec (cmd data : Byte) (s : State) : State := setPec (pecCheck s.params cmd data) s

/-! ### The reference device (R47) -/

/-- An address of the reference device: 0x01 to 0x0B. -/
def deviceHas (addr : Addr) : Bool := decide (Config.regLo ≤ addr) && decide (addr ≤ Config.regHi)

/-- The byte it answers to the next exchange, by what it has seen since `Select`. -/
def deviceAnswer (P : Params) (d : RefDevice) : Byte :=
  match d.seen with
  | [c] => if cmdDir c && deviceHas (cmdAddr c) then Memory.read d.mem (cmdAddr c).toNat else 0x00#8
  | [c, _] =>
    if cmdDir c && deviceHas (cmdAddr c) then pecCheck P c (Memory.read d.mem (cmdAddr c).toNat) else 0x00#8
  | _ => 0x00#8

/-- What it stores at `Deselect`: the data byte of a write frame to a read-write address whose check byte
is right; otherwise nothing. -/
def deviceCommit (P : Params) (tab : List RegRow) (d : RefDevice) : Memory :=
  match d.seen with
  | c :: data :: k :: _ =>
    if !cmdDir c && (deviceHas (cmdAddr c) && ((findWritable tab (cmdAddr c)).isSome && k == pecCheck P c data)) then
      Memory.write d.mem (cmdAddr c).toNat data
    else d.mem
  | _ => d.mem

/-- The device as it stands after a change it makes if it is attached. -/
def deviceAfter (f : RefDevice → RefDevice) (s : State) : RefDevice :=
  match s.attached with
  | .oracle => s.dev
  | .reference => f s.dev

/-! ### The transport (R45) -/

/-- `Select`: a frame begins, no bit of it shifted yet (R23, R45). -/
def select (s : State) : State :=
  emit .select { s with bitcnt := 0, dev := deviceAfter (fun d => { d with seen := [] }) s }

/-- Record one exchange of a byte each way; eight bits of the frame are shifted (R23, R45). -/
def exchange (out inn : Byte) (s : State) : State :=
  emit (.xfer out inn)
    { s with bitcnt := s.bitcnt + 8, dev := deviceAfter (fun d => { d with seen := d.seen ++ [out] }) s }

/-- The byte the device drives in the next exchange: any byte (R46), unless the reference device is
attached (R47). -/
def busIn (s : State) : Byte :=
  match s.attached with
  | .oracle => s.script.headD (Config.busByte s.drawn)
  | .reference => deviceAnswer s.params s.dev

/-- The oracle has answered one byte. -/
def advanceOracle (s : State) : State :=
  match s.attached with
  | .oracle => { s with script := s.script.tail, drawn := s.drawn + 1 }
  | .reference => s

/-- `Xfer(out) -> in` (R7, R45); the byte received is `busIn` of the state before. -/
def xfer (out : Byte) (s : State) : State := exchange out (busIn s) (advanceOracle s)

/-- `Deselect`: the frame ends (R45). -/
def deselect (s : State) : State :=
  emit .deselect
    { s with dev := deviceAfter (fun d => ⟨deviceCommit s.params s.regtab d, []⟩) s }

/-! ### Packers, checker and the exception -/

/-- `FRAME.WR` on the working registers: `CMD`, `DAT`, `PEC`, `CHK` (R122). -/
def packWrite (addr : Addr) (data : Byte) (s : State) : State :=
  let s1 := calcPec (packCmd addr Config.writeBit) data { s with cmd := packCmd addr Config.writeBit, dat := data }
  { s1 with chk := s1.pec }

/-- `FRAME.RDCMD` on the working registers: `CMD` (R123). -/
def packRead (addr : Addr) (s : State) : State := { s with cmd := packCmd addr Config.readBit }

/-- Raise `ChecksumMismatch` (R211): `MISMATCH` is set and one diagnostic event is emitted. It is no
control transfer; the operation goes on (R7, R212). -/
def raiseChecksumMismatch (addr : Addr) (dataRx checkRx computed : Byte) (s : State) : State :=
  emit (.diag addr dataRx checkRx computed) { s with mismatch := true }

/-- `FRAME.CHK` on the working registers (R124): `CMD`, `RXDATA`, `RXCHK`, `PEC`, `MISMATCH`, and the
exception exactly when the two check bytes differ. -/
def checkReceived (addr : Addr) (dataRx checkRx : Byte) (s : State) : State :=
  let s1 := calcPec (packCmd addr Config.readBit) dataRx
    { s with cmd := packCmd addr Config.readBit, rxdata := dataRx, rxchk := checkRx }
  if checkMismatch s1.pec checkRx then raiseChecksumMismatch addr dataRx checkRx s1.pec s1
  else { s1 with mismatch := false }

/-! ### The two transactions -/

/-- The frame in `CMD`, `DAT`, `CHK` (R23). -/
def frameToSend (s : State) : FrameWord := joinFrame s.cmd s.dat s.chk

/-- `WRITE` on an address that may be written (R125): pack the frame, send its three bytes, discard what
comes back. -/
def sendWrite (addr : Addr) (data : Byte) (s : State) : State :=
  let s1 := packWrite addr data s
  deselect (xfer s1.chk (xfer s1.dat (xfer s1.cmd (select s1))))

/-- The first exchange of a read: the command byte goes out and the byte received is discarded (R126). -/
def openRead (addr : Addr) (s : State) : State :=
  let s1 := packRead addr s
  xfer s1.cmd (select s1)

/-- `READ` on an address in `REGTAB` (R126): the read command, two bytes received while `RD_FILL` is
driven, then the check after `Deselect` (spec/92 D23). -/
def receiveRead (addr : Addr) (s : State) : State :=
  let s2 := openRead addr s
  let s3 := xfer s.params.rdFill s2
  let s4 := xfer s.params.rdFill s3
  checkReceived addr (busIn s2) (busIn s3) (deselect s4)

/-- The read transaction whose frame on the wire carries these two bytes: `READ` with the device's answer
given (R62, log entry 7). -/
def receiveFrame (addr : Addr) (data check : Byte) (s : State) : State :=
  let s2 := openRead addr s
  let s4 := exchange s.params.rdFill check (exchange s.params.rdFill data s2)
  checkReceived addr data check (deselect s4)

/-- The response of `READ` (R71): the data byte and the check byte received, and the mismatch. Under
`FAIL_CLOSED` a mismatching read returns no data (R128, log entry 14). -/
def respondRead (s : State) : State :=
  if s.params.failClosed && s.mismatch then respond (yPair s.rxchk 0x00#8) true .nothing s
  else respond (yPair s.rxchk s.rxdata) s.mismatch (.byte s.rxdata) s

/-- The response of `GET` (R71, R180): the decoded value and the raw data byte, and the mismatch. Under
`FAIL_CLOSED` a mismatching get returns no data (R128, log entry 14). -/
def respondTyped (kind : Kind) (s : State) : State :=
  let v := decodeKind s.params s.flagMap kind s.rxdata
  if s.params.failClosed && s.mismatch then respond 0 true .nothing s
  else respond (yTyped s.rxdata v.bits) s.mismatch v.decoded s

/-- The response of `WRITE` and `SET` (R71, R125): the frame sent. -/
def respondWrite (s : State) : State := respond (frameToSend s) false (.frame (frameToSend s)) s

/-- `WRITE addr, data` (R125): refused unless `REGTAB` has the address read-write (R73). -/
def writeReg (addr : Addr) (data : Byte) (s : State) : State :=
  match findWritable s.regtab addr with
  | none => refuse s
  | some _ => respondWrite (sendWrite addr data s)

/-- `READ addr` (R126): refused unless the address is in `REGTAB` (R73). -/
def readReg (addr : Addr) (s : State) : State :=
  match findReg s.regtab addr with
  | none => refuse s
  | some _ => respondRead (receiveRead addr s)

/-- `GET addr` (R180): one read transaction, then `DEC` by the register's kind. -/
def getReg (addr : Addr) (s : State) : State :=
  match findReg s.regtab addr with
  | none => refuse s
  | some row => respondTyped row.kind (receiveRead addr s)

/-- `SET addr, val` (R181): `ENC` by the register's kind, then one write transaction. A register without
an encoder is refused (R149, log entry 16). -/
def setReg (addr : Addr) (val : Byte) (s : State) : State :=
  match findWritable s.regtab addr with
  | none => refuse s
  | some row =>
    match encodeKind s.params row.kind val with
    | none => refuse s
    | some data => respondWrite (sendWrite addr data s)

/-- A read frame of the wire (R62): the read transaction in which the device answers these two bytes (log
entry 7). -/
def readFrame (addr : Addr) (data check : Byte) (s : State) : State :=
  match findReg s.regtab addr with
  | none => refuse s
  | some _ => respondRead (receiveFrame addr data check s)

/-- A write frame of the wire (R61): the write transaction that sends it. The block drives a frame only
with its right check byte, so another one is refused (R61, R234, log entry 7). -/
def writeFrame (addr : Addr) (data check : Byte) (s : State) : State :=
  match findWritable s.regtab addr with
  | none => refuse s
  | some _ =>
    if check = pecCheck s.params (packCmd addr Config.writeBit) data then
      respondWrite (sendWrite addr data s)
    else refuse s

/-! ### Reset -/

/-- The reset event (R230): every working register takes its reset value, the history is emptied, the
block is idle; the constants, the parameters and the device stay (log entry 5 for the response, 2 for the
requests). -/
def resetEvent (s : State) : State :=
  { s with
    pec := State.reset.pec, cmd := State.reset.cmd, dat := State.reset.dat, chk := State.reset.chk,
    bitcnt := State.reset.bitcnt, rxdata := State.reset.rxdata, rxchk := State.reset.rxchk,
    mismatch := State.reset.mismatch, hist := [], resp := State.reset.resp, pending := [] }

end Sys2Proof.Machine
end

