-- ==== Sys2Proof/Machine/AccessFamily.lean ====
section
/-! DEFINITION. The meanings of the typed register accesses (spec/44_register_access.md R180 to R197). -/

namespace Sys2Proof.Machine

/-- `GET addr` (R180). -/
def execGet (addr : Addr) (s : State) : Host.Outcome State Fault Refusal :=
  .next (getReg addr s)

/-- `SET addr, val` (R181). -/
def execSet (addr : Addr) (val : Byte) (s : State) : Host.Outcome State Fault Refusal :=
  .next (setReg addr val s)

/-- `GET.MFR_FAULT` = `GET 0x01` (R182). -/
def execGetMfrFault (s : State) : Host.Outcome State Fault Refusal :=
  .next (getReg 0x01 s)

/-- `GET.MFR_OC_FAULT` = `GET 0x02` (R183). -/
def execGetMfrOcFault (s : State) : Host.Outcome State Fault Refusal :=
  .next (getReg 0x02 s)

/-- `GET.MFR_NOC_FAULT` = `GET 0x03` (R184). -/
def execGetMfrNocFault (s : State) : Host.Outcome State Fault Refusal :=
  .next (getReg 0x03 s)

/-- `GET.MFR_STATUS` = `GET 0x04` (R185). -/
def execGetMfrStatus (s : State) : Host.Outcome State Fault Refusal :=
  .next (getReg 0x04 s)

/-- `GET.MFR_CONFIG1` = `GET 0x05` (R186). -/
def execGetMfrConfig1 (s : State) : Host.Outcome State Fault Refusal :=
  .next (getReg 0x05 s)

/-- `GET.MFR_CONFIG2` = `GET 0x06` (R187). -/
def execGetMfrConfig2 (s : State) : Host.Outcome State Fault Refusal :=
  .next (getReg 0x06 s)

/-- `GET.MFR_CHIP_CTRL` = `GET 0x07` (R188). -/
def execGetMfrChipCtrl (s : State) : Host.Outcome State Fault Refusal :=
  .next (getReg 0x07 s)

/-- `GET.IDAC_VLOW` = `GET 0x08` (R189). -/
def execGetIdacVlow (s : State) : Host.Outcome State Fault Refusal :=
  .next (getReg 0x08 s)

/-- `GET.IDAC_VHIGH` = `GET 0x09` (R190). -/
def execGetIdacVhigh (s : State) : Host.Outcome State Fault Refusal :=
  .next (getReg 0x09 s)

/-- `GET.IDAC_SETCUR` = `GET 0x0A` (R191). -/
def execGetIdacSetcur (s : State) : Host.Outcome State Fault Refusal :=
  .next (getReg 0x0A s)

/-- `GET.MFR_SSFM` = `GET 0x0B` (R192). -/
def execGetMfrSsfm (s : State) : Host.Outcome State Fault Refusal :=
  .next (getReg 0x0B s)

/-- `SET.MFR_CHIP_CTRL val` = `SET 0x07, val` (R193). -/
def execSetMfrChipCtrl (val : Byte) (s : State) : Host.Outcome State Fault Refusal :=
  .next (setReg 0x07 val s)

/-- `SET.IDAC_VLOW val` = `SET 0x08, val` (R194). -/
def execSetIdacVlow (val : Byte) (s : State) : Host.Outcome State Fault Refusal :=
  .next (setReg 0x08 val s)

/-- `SET.IDAC_VHIGH val` = `SET 0x09, val` (R195). -/
def execSetIdacVhigh (val : Byte) (s : State) : Host.Outcome State Fault Refusal :=
  .next (setReg 0x09 val s)

/-- `SET.IDAC_SETCUR val` = `SET 0x0A, val` (R196). -/
def execSetIdacSetcur (val : Byte) (s : State) : Host.Outcome State Fault Refusal :=
  .next (setReg 0x0A val s)

/-- `SET.MFR_SSFM val` = `SET 0x0B, val` (R197). -/
def execSetMfrSsfm (val : Byte) (s : State) : Host.Outcome State Fault Refusal :=
  .next (setReg 0x0B val s)

end Sys2Proof.Machine
end

