-- ==== Sys2Proof/Machine/FieldFamily.lean ====
section
/-! DEFINITION. The meanings of the field converters (spec/42_field_converters.md R141 to R148): no working register
is written. -/

namespace Sys2Proof.Machine

/-- `SM7.DEC bits` (R141). -/
def execSm7Dec (byte : Byte) (s : State) : Host.Outcome State Fault Refusal :=
  .next (let v := sm7Decode s.params.sm7Variant byte; respond (yByte (u8 v)) false (.value v) s)

/-- `SM7.ENC val` (R142). -/
def execSm7Enc (val : Byte) (s : State) : Host.Outcome State Fault Refusal :=
  .next (let b := sm7Encode s.params.sm7Variant val; respond (yByte b) false (.byte b) s)

/-- `B5.DEC bits` (R145). -/
def execB5Dec (byte : Byte) (s : State) : Host.Outcome State Fault Refusal :=
  .next (let v := b5Decode s.params.b5Variant byte; respond (yByte (u8 v)) false (.value v) s)

/-- `B5.ENC val` (R144). -/
def execB5Enc (val : Byte) (s : State) : Host.Outcome State Fault Refusal :=
  .next (let b := b5Encode s.params.b5Variant val; respond (yByte b) false (.byte b) s)

/-- `RAW.DEC byte` (R147). -/
def execRawDec (byte : Byte) (s : State) : Host.Outcome State Fault Refusal :=
  .next (respond (yByte (rawDecode byte)) false (.byte (rawDecode byte)) s)

/-- `RAW.ENC byte` (R148). -/
def execRawEnc (byte : Byte) (s : State) : Host.Outcome State Fault Refusal :=
  .next (respond (yByte (rawEncode byte)) false (.byte (rawEncode byte)) s)

end Sys2Proof.Machine
end

