-- ==== Sys2Proof/Machine/FlagFamily.lean ====
section
/-! DEFINITION. The meanings of the flag unpackers (spec/43_flag_unpack.md R161 to R166): no working register is
written. -/

namespace Sys2Proof.Machine

/-- The response of a flag unpacker (R71, R160): the mask, and for MFR_CONFIG1 the selector codes. -/
def respondFlags (r : FlagReg) (byte : Byte) (s : State) : State :=
  respond ((unpackFlags s.flagMap r byte).bits.setWidth 24) false (unpackFlags s.flagMap r byte).decoded s

/-- `FLG.FAULT byte` (R161). -/
def execFlgFault (byte : Byte) (s : State) : Host.Outcome State Fault Refusal :=
  .next (respondFlags .fault byte s)

/-- `FLG.OC byte` (R162). -/
def execFlgOc (byte : Byte) (s : State) : Host.Outcome State Fault Refusal :=
  .next (respondFlags .oc byte s)

/-- `FLG.NOC byte` (R163). -/
def execFlgNoc (byte : Byte) (s : State) : Host.Outcome State Fault Refusal :=
  .next (respondFlags .noc byte s)

/-- `FLG.STATUS byte` (R164). -/
def execFlgStatus (byte : Byte) (s : State) : Host.Outcome State Fault Refusal :=
  .next (respondFlags .status byte s)

/-- `FLG.CONFIG1 byte` (R165). -/
def execFlgConfig1 (byte : Byte) (s : State) : Host.Outcome State Fault Refusal :=
  .next (respondFlags .config1 byte s)

/-- `FLG.CONFIG2 byte` (R166). -/
def execFlgConfig2 (byte : Byte) (s : State) : Host.Outcome State Fault Refusal :=
  .next (respondFlags .config2 byte s)

end Sys2Proof.Machine
end

