-- ==== Sys2Proof/Machine/FrameFamily.lean ====
section
/-! DEFINITION. The meanings of the frame family (spec/41_frame_transactions.md R120 to R126). -/

namespace Sys2Proof.Machine

/-- `CMD.PACK addr, dir` (R120); total on every address. -/
def execCmdPack (addr : Addr) (dir : Bool) (s : State) : Host.Outcome State Fault Refusal :=
  .next (respond (yByte (packCmd addr dir)) false (.byte (packCmd addr dir)) s)

/-- `CMD.UNPACK cmd` (R121). -/
def execCmdUnpack (cmd : Byte) (s : State) : Host.Outcome State Fault Refusal :=
  .next (respond (yCommand (cmdAddr cmd) (cmdDir cmd)) false (.command (cmdAddr cmd) (cmdDir cmd)) s)

/-- `FRAME.WR addr, data` (R122): it only packs; no event. -/
def execFrameWr (addr : Addr) (data : Byte) (s : State) : Host.Outcome State Fault Refusal :=
  .next (respondWrite (packWrite addr data s))

/-- `FRAME.RDCMD addr` (R123). -/
def execFrameRdcmd (addr : Addr) (s : State) : Host.Outcome State Fault Refusal :=
  .next (let t := packRead addr s; respond (yByte t.cmd) false (.byte t.cmd) t)

/-- `FRAME.CHK addr, data_rx, check_rx` (R124): the data byte unmodified, the check byte computed, and the
mismatch. -/
def execFrameChk (addr : Addr) (dataRx checkRx : Byte) (s : State) : Host.Outcome State Fault Refusal :=
  .next (let t := checkReceived addr dataRx checkRx s; respond (yPair t.pec t.rxdata) t.mismatch (.byte t.rxdata) t)

/-- `WRITE addr, data` (R125): one `WR24` frame, or refused (R73). -/
def execWrite (addr : Addr) (data : Byte) (s : State) : Host.Outcome State Fault Refusal :=
  .next (writeReg addr data s)

/-- `READ addr` (R126): one `RD24` frame, or refused (R73). -/
def execRead (addr : Addr) (s : State) : Host.Outcome State Fault Refusal :=
  .next (readReg addr s)

end Sys2Proof.Machine
end

