-- ==== Sys2Proof/Machine/PecFamily.lean ====
section
/-! DEFINITION. The meanings of the PEC family (spec/40_pec.md R101 to R106). None writes `MISMATCH`, emits an event
or can be refused. -/

namespace Sys2Proof.Machine

/-- `PEC.SEED` (R101): the seed goes to `PEC`. -/
def execPecSeed (s : State) : Host.Outcome State Fault Refusal :=
  .next (let t := setPec s.params.pecInit s; respond (yByte t.pec) false (.byte t.pec) t)

/-- `PEC.BIT din` (R102): one step of the bit-serial division. -/
def execPecBit (din : Bool) (s : State) : Host.Outcome State Fault Refusal :=
  .next (let t := setPec (pecBitStep s.params s.pec din) s; respond (yByte t.pec) false (.byte t.pec) t)

/-- `PEC.BYTE b` (R103): eight steps of `PEC.BIT`. -/
def execPecByte (byte : Byte) (s : State) : Host.Outcome State Fault Refusal :=
  .next (let t := setPec (pecByteStep s.params s.pec byte) s; respond (yByte t.pec) false (.byte t.pec) t)

/-- `PEC.TBL i` (R104): the table entry; no working register changes. -/
def execPecTbl (index : Byte) (s : State) : Host.Outcome State Fault Refusal :=
  .next (respond (yByte (pecLookup s.tbl index)) false (.byte (pecLookup s.tbl index)) s)

/-- `PEC.CALC cmd, data` (R106): the check byte; `PEC` holds it afterwards. -/
def execPecCalc (cmd data : Byte) (s : State) : Host.Outcome State Fault Refusal :=
  .next (let t := calcPec cmd data s; respond (yByte t.pec) false (.byte t.pec) t)

end Sys2Proof.Machine
end

