-- ==== Sys2Proof/Machine/WireFamily.lean ====
section
/-! DEFINITION. The meanings of the wire frames (spec/30_encoding.md R61, R62; spec/41_frame_transactions.md R125,
R126; log entry 7). -/

namespace Sys2Proof.Machine

/-- `RD24.MFR_FAULT`: the frame of a read of 0x01 (R62, R126). -/
def execRd24MfrFault (data check : Byte) (s : State) : Host.Outcome State Fault Refusal :=
  .next (readFrame 0x01 data check s)

/-- `RD24.MFR_OC_FAULT`: the frame of a read of 0x02 (R62, R126). -/
def execRd24MfrOcFault (data check : Byte) (s : State) : Host.Outcome State Fault Refusal :=
  .next (readFrame 0x02 data check s)

/-- `RD24.MFR_NOC_FAULT`: the frame of a read of 0x03 (R62, R126). -/
def execRd24MfrNocFault (data check : Byte) (s : State) : Host.Outcome State Fault Refusal :=
  .next (readFrame 0x03 data check s)

/-- `RD24.MFR_STATUS`: the frame of a read of 0x04 (R62, R126). -/
def execRd24MfrStatus (data check : Byte) (s : State) : Host.Outcome State Fault Refusal :=
  .next (readFrame 0x04 data check s)

/-- `RD24.MFR_CONFIG1`: the frame of a read of 0x05 (R62, R126). -/
def execRd24MfrConfig1 (data check : Byte) (s : State) : Host.Outcome State Fault Refusal :=
  .next (readFrame 0x05 data check s)

/-- `RD24.MFR_CONFIG2`: the frame of a read of 0x06 (R62, R126). -/
def execRd24MfrConfig2 (data check : Byte) (s : State) : Host.Outcome State Fault Refusal :=
  .next (readFrame 0x06 data check s)

/-- `RD24.MFR_CHIP_CTRL`: the frame of a read of 0x07 (R62, R126). -/
def execRd24MfrChipCtrl (data check : Byte) (s : State) : Host.Outcome State Fault Refusal :=
  .next (readFrame 0x07 data check s)

/-- `RD24.IDAC_VLOW`: the frame of a read of 0x08 (R62, R126). -/
def execRd24IdacVlow (data check : Byte) (s : State) : Host.Outcome State Fault Refusal :=
  .next (readFrame 0x08 data check s)

/-- `RD24.IDAC_VHIGH`: the frame of a read of 0x09 (R62, R126). -/
def execRd24IdacVhigh (data check : Byte) (s : State) : Host.Outcome State Fault Refusal :=
  .next (readFrame 0x09 data check s)

/-- `RD24.IDAC_SETCUR`: the frame of a read of 0x0A (R62, R126). -/
def execRd24IdacSetcur (data check : Byte) (s : State) : Host.Outcome State Fault Refusal :=
  .next (readFrame 0x0A data check s)

/-- `RD24.MFR_SSFM`: the frame of a read of 0x0B (R62, R126). -/
def execRd24MfrSsfm (data check : Byte) (s : State) : Host.Outcome State Fault Refusal :=
  .next (readFrame 0x0B data check s)

/-- `WR24.MFR_CHIP_CTRL`: the frame of a write of 0x07 (R61, R125). -/
def execWr24MfrChipCtrl (data check : Byte) (s : State) : Host.Outcome State Fault Refusal :=
  .next (writeFrame 0x07 data check s)

/-- `WR24.IDAC_VLOW`: the frame of a write of 0x08 (R61, R125). -/
def execWr24IdacVlow (data check : Byte) (s : State) : Host.Outcome State Fault Refusal :=
  .next (writeFrame 0x08 data check s)

/-- `WR24.IDAC_VHIGH`: the frame of a write of 0x09 (R61, R125). -/
def execWr24IdacVhigh (data check : Byte) (s : State) : Host.Outcome State Fault Refusal :=
  .next (writeFrame 0x09 data check s)

/-- `WR24.IDAC_SETCUR`: the frame of a write of 0x0A (R61, R125). -/
def execWr24IdacSetcur (data check : Byte) (s : State) : Host.Outcome State Fault Refusal :=
  .next (writeFrame 0x0A data check s)

/-- `WR24.MFR_SSFM`: the frame of a write of 0x0B (R61, R125). -/
def execWr24MfrSsfm (data check : Byte) (s : State) : Host.Outcome State Fault Refusal :=
  .next (writeFrame 0x0B data check s)

end Sys2Proof.Machine
end

