-- ==== Sys2Proof/Machine/Dispatch.lean ====
section
/-! DEFINITION. One arm for each instruction. -/

namespace Sys2Proof.Machine

def exec (i : Instr) (s : State) : Host.Outcome State Fault Refusal :=
  match i with
  | .pecSeed => Sys2Proof.Machine.execPecSeed s
  | .pecBit din => Sys2Proof.Machine.execPecBit din s
  | .pecByte byte => Sys2Proof.Machine.execPecByte byte s
  | .pecTbl index => Sys2Proof.Machine.execPecTbl index s
  | .pecCalc cmd data => Sys2Proof.Machine.execPecCalc cmd data s
  | .cmdPack addr dir => Sys2Proof.Machine.execCmdPack addr dir s
  | .cmdUnpack cmd => Sys2Proof.Machine.execCmdUnpack cmd s
  | .frameWr addr data => Sys2Proof.Machine.execFrameWr addr data s
  | .frameRdcmd addr => Sys2Proof.Machine.execFrameRdcmd addr s
  | .frameChk addr dataRx checkRx => Sys2Proof.Machine.execFrameChk addr dataRx checkRx s
  | .write addr data => Sys2Proof.Machine.execWrite addr data s
  | .read addr => Sys2Proof.Machine.execRead addr s
  | .sm7Dec byte => Sys2Proof.Machine.execSm7Dec byte s
  | .sm7Enc val => Sys2Proof.Machine.execSm7Enc val s
  | .b5Dec byte => Sys2Proof.Machine.execB5Dec byte s
  | .b5Enc val => Sys2Proof.Machine.execB5Enc val s
  | .rawDec byte => Sys2Proof.Machine.execRawDec byte s
  | .rawEnc byte => Sys2Proof.Machine.execRawEnc byte s
  | .flgFault byte => Sys2Proof.Machine.execFlgFault byte s
  | .flgOc byte => Sys2Proof.Machine.execFlgOc byte s
  | .flgNoc byte => Sys2Proof.Machine.execFlgNoc byte s
  | .flgStatus byte => Sys2Proof.Machine.execFlgStatus byte s
  | .flgConfig1 byte => Sys2Proof.Machine.execFlgConfig1 byte s
  | .flgConfig2 byte => Sys2Proof.Machine.execFlgConfig2 byte s
  | .get addr => Sys2Proof.Machine.execGet addr s
  | .set addr val => Sys2Proof.Machine.execSet addr val s
  | .getMfrFault => Sys2Proof.Machine.execGetMfrFault s
  | .getMfrOcFault => Sys2Proof.Machine.execGetMfrOcFault s
  | .getMfrNocFault => Sys2Proof.Machine.execGetMfrNocFault s
  | .getMfrStatus => Sys2Proof.Machine.execGetMfrStatus s
  | .getMfrConfig1 => Sys2Proof.Machine.execGetMfrConfig1 s
  | .getMfrConfig2 => Sys2Proof.Machine.execGetMfrConfig2 s
  | .getMfrChipCtrl => Sys2Proof.Machine.execGetMfrChipCtrl s
  | .getIdacVlow => Sys2Proof.Machine.execGetIdacVlow s
  | .getIdacVhigh => Sys2Proof.Machine.execGetIdacVhigh s
  | .getIdacSetcur => Sys2Proof.Machine.execGetIdacSetcur s
  | .getMfrSsfm => Sys2Proof.Machine.execGetMfrSsfm s
  | .setMfrChipCtrl val => Sys2Proof.Machine.execSetMfrChipCtrl val s
  | .setIdacVlow val => Sys2Proof.Machine.execSetIdacVlow val s
  | .setIdacVhigh val => Sys2Proof.Machine.execSetIdacVhigh val s
  | .setIdacSetcur val => Sys2Proof.Machine.execSetIdacSetcur val s
  | .setMfrSsfm val => Sys2Proof.Machine.execSetMfrSsfm val s
  | .rd24MfrFault data check => Sys2Proof.Machine.execRd24MfrFault data check s
  | .rd24MfrOcFault data check => Sys2Proof.Machine.execRd24MfrOcFault data check s
  | .rd24MfrNocFault data check => Sys2Proof.Machine.execRd24MfrNocFault data check s
  | .rd24MfrStatus data check => Sys2Proof.Machine.execRd24MfrStatus data check s
  | .rd24MfrConfig1 data check => Sys2Proof.Machine.execRd24MfrConfig1 data check s
  | .rd24MfrConfig2 data check => Sys2Proof.Machine.execRd24MfrConfig2 data check s
  | .rd24MfrChipCtrl data check => Sys2Proof.Machine.execRd24MfrChipCtrl data check s
  | .rd24IdacVlow data check => Sys2Proof.Machine.execRd24IdacVlow data check s
  | .rd24IdacVhigh data check => Sys2Proof.Machine.execRd24IdacVhigh data check s
  | .rd24IdacSetcur data check => Sys2Proof.Machine.execRd24IdacSetcur data check s
  | .rd24MfrSsfm data check => Sys2Proof.Machine.execRd24MfrSsfm data check s
  | .wr24MfrChipCtrl data check => Sys2Proof.Machine.execWr24MfrChipCtrl data check s
  | .wr24IdacVlow data check => Sys2Proof.Machine.execWr24IdacVlow data check s
  | .wr24IdacVhigh data check => Sys2Proof.Machine.execWr24IdacVhigh data check s
  | .wr24IdacSetcur data check => Sys2Proof.Machine.execWr24IdacSetcur data check s
  | .wr24MfrSsfm data check => Sys2Proof.Machine.execWr24MfrSsfm data check s

end Sys2Proof.Machine
end

