-- ==== Sys2Proof/Machine/Step.lean ====
section
/-! DEFINITION. One step: the block serves the next request the caller has presented (spec/10_state.md R26,
spec/20_memory.md R48). -/

namespace Sys2Proof.Machine

/-- One step. With nothing presented the block waits (R26, log entry 17). Otherwise the first item leaves
the queue; bits that are no instruction are refused (R73 (a)) and an instruction is executed. -/
def step (s : State) : Host.Outcome State Fault Refusal :=
  match s.pending with
  | [] => .next s
  | p :: rest =>
    match decode p with
    | .ok i => exec i { s with pending := rest }
    | .error _ => .next (refuse { s with pending := rest })

/-- The state with an opcode-table word presented before everything else (log entry 2). A word that no port
carries changes nothing. -/
def State.withFetchWord (s : State) (nbits w : Nat) : State :=
  match portItemOfTable nbits w with
  | some p => { s with pending := p :: s.pending }
  | none => s

end Sys2Proof.Machine
end

