-- ==== Sys2Proof/Safety.lean ====
section
/-! DEFINITION. The terms the statements use: what a transaction leaves behind (spec/41_frame_transactions.md
R125 to R127), what a history may hold (spec/20_memory.md R45, R48; spec/60_exceptions.md R211), the invariant of
the machine, and what an operation may look at (spec/00_scope.md R10). -/

namespace Sys2Proof.Machine

/-! ### Transactions as the rules describe them -/

/-- The check byte that a read of `addr` should come with (R124). -/
def readCheck (s : State) (addr : Addr) (data : Byte) : Byte :=
  pecCheck s.params (packCmd addr Config.readBit) data

/-- The check byte that a write to `addr` is sent with (R122). -/
def writeCheck (s : State) (addr : Addr) (data : Byte) : Byte :=
  pecCheck s.params (packCmd addr Config.writeBit) data

/-- The diagnostic of a read whose check byte is wrong, or nothing (R211, R213). -/
def readReport (s : State) (addr : Addr) (data check : Byte) : List Event :=
  if readCheck s addr data = check then [] else [.diag addr data check (readCheck s addr data)]

/-- The events of a read transaction in which the device answers `x`, `data`, `check` (R126). -/
def readEvents (s : State) (addr : Addr) (x data check : Byte) : List Event :=
  [.select, .xfer (packCmd addr Config.readBit) x, .xfer s.params.rdFill data, .xfer s.params.rdFill check, .deselect] ++
    readReport s addr data check

/-- The events of a write transaction in which the device answers `x`, `y`, `z` (R125). -/
def writeEvents (s : State) (addr : Addr) (data x y z : Byte) : List Event :=
  [.select, .xfer (packCmd addr Config.writeBit) x, .xfer data y, .xfer (writeCheck s addr data) z, .deselect]

/-- What `FRAME.CHK` leaves in the working registers and the history (R124). -/
def afterCheck (s : State) (addr : Addr) (data check : Byte) : State :=
  { s with
    cmd := packCmd addr Config.readBit, rxdata := data, rxchk := check, pec := readCheck s addr data,
    mismatch := readCheck s addr data != check, hist := s.hist ++ readReport s addr data check }

/-- What a read transaction leaves in the working registers and the history (R126). -/
def afterRead (s : State) (addr : Addr) (x data check : Byte) : State :=
  { s with
    cmd := packCmd addr Config.readBit, rxdata := data, rxchk := check, pec := readCheck s addr data,
    mismatch := readCheck s addr data != check, bitcnt := 24, hist := s.hist ++ readEvents s addr x data check }

/-- What `FRAME.WR` leaves in the working registers (R122). -/
def afterPack (s : State) (addr : Addr) (data : Byte) : State :=
  { s with
    cmd := packCmd addr Config.writeBit, dat := data, pec := writeCheck s addr data, chk := writeCheck s addr data }

/-- What a write transaction leaves in the working registers and the history (R125). -/
def afterWrite (s : State) (addr : Addr) (data x y z : Byte) : State :=
  { s with
    cmd := packCmd addr Config.writeBit, dat := data, pec := writeCheck s addr data, chk := writeCheck s addr data,
    bitcnt := 24, hist := s.hist ++ writeEvents s addr data x y z }

/-- The write frame of `addr` and `data` (R61, R122). -/
def writeFrameWord (s : State) (addr : Addr) (data : Byte) : FrameWord :=
  packCmd addr Config.writeBit ++ data ++ writeCheck s addr data

/-- The state after a refused request: `refused` = 1, `y` = 0, `flag` = 0, nothing else (R70). -/
def afterRefusal (s : State) : State := { s with resp := ⟨0, false, true, .nothing⟩ }

/-- The oracle is attached and answers `x`, `y`, `z` next: any bytes (R46). -/
def oracleAnswers (s : State) (x y z : Byte) (rest : List Byte) : Prop :=
  s.attached = .oracle ∧ s.script = x :: y :: z :: rest

/-- The state once the oracle has answered three bytes and `rest` is left of its script. -/
def tookThree (s : State) (rest : List Byte) : State := { s with script := rest, drawn := s.drawn + 3 }

/-! ### What a history may hold -/

/-- A frame that may stand in a history: its address is in `REGTAB`; a read drives `RD_FILL` (R126, R129);
a write goes to a read-write address with the right check byte (R125, R61). -/
def frameAllowed (P : Params) (tab : List RegRow) (cmd out2 out3 : Byte) : Bool :=
  (findReg tab (cmdAddr cmd)).isSome &&
    (if cmdDir cmd then out2 == P.rdFill && out3 == P.rdFill
     else (findWritable tab (cmdAddr cmd)).isSome && out3 == pecCheck P cmd out2)

/-- A diagnostic that may stand in a history: its computed check byte is right and differs from the one
received (R211). -/
def diagAllowed (P : Params) (addr : Addr) (dataRx checkRx computed : Byte) : Bool :=
  computed == pecCheck P (packCmd addr Config.readBit) dataRx && computed != checkRx

/-- A history is a sequence of whole transactions and diagnostics: three exchanges between a `Select` and
the next `Deselect` and none outside (R127), every frame and diagnostic allowed, and a read whose check byte
is wrong is reported at once (R62, R126). -/
def historyAllowed (P : Params) (tab : List RegRow) (h : List Event) : Bool :=
  match h with
  | [] => true
  | .diag addr d k c :: rest => diagAllowed P addr d k c && historyAllowed P tab rest
  | .select :: .xfer cmd _ :: .xfer o2 i2 :: .xfer o3 i3 :: .deselect :: rest =>
    frameAllowed P tab cmd o2 o3 &&
      ((!cmdDir cmd || pecCheck P cmd i2 == i3 || rest.head? == some (.diag (cmdAddr cmd) i2 i3 (pecCheck P cmd i2))) &&
        historyAllowed P tab rest)
  | _ => false

/-- A diagnostic event. -/
def Event.isDiag (e : Event) : Bool :=
  match e with
  | .diag _ _ _ _ => true
  | _ => false

/-- How many diagnostics a history holds. -/
def diagCount (h : List Event) : Nat := h.countP Event.isDiag

/-! ### The invariant -/

/-- What holds of every state a run reaches. -/
structure Invariant (s : State) : Prop where
  /-- `T` is the table of its definition (R104). -/
  tableIsT : s.tbl = pecTableOf s.params
  /-- `HIST` is a sequence of whole, allowed transactions and true diagnostics. -/
  history : historyAllowed s.params s.regtab s.hist = true
  /-- No frame is half shifted between two requests (R26). -/
  frameDone : s.bitcnt = 0 ∨ s.bitcnt = 24
  /-- The device has seen no byte of a frame that is not ended. -/
  deviceIdle : s.dev.seen = []
  /-- The device's memory has its canonical form. -/
  memoryWf : Memory.wf s.dev.mem = true
  /-- The device's memory lists only addresses 0x01 to 0x0B (R40, R47). -/
  memoryMapped : s.dev.mem.all (fun c => decide (1 ≤ c.1) && decide (c.1 ≤ 11)) = true
  /-- A refused response carries nothing else (R70). -/
  refusedIsBare : s.resp.refused = true → s.resp.y = 0 ∧ s.resp.flag = false ∧ s.resp.decoded = .nothing
  /-- `flag` = 1 is the flag `MISMATCH` of the read just made (R71). -/
  flagIsMismatch : s.resp.flag = true → s.mismatch = true

/-! ### What an operation writes and looks at -/

/-- The device address an instruction may write: that of the write transactions. -/
def storesTo (i : Instr) : Option Addr :=
  match i with
  | .write addr _ => some addr
  | .set addr _ => some addr
  | .setMfrChipCtrl _ => some 0x07
  | .setIdacVlow _ => some 0x08
  | .setIdacVhigh _ => some 0x09
  | .setIdacSetcur _ => some 0x0A
  | .setMfrSsfm _ => some 0x0B
  | .wr24MfrChipCtrl _ _ => some 0x07
  | .wr24IdacVlow _ _ => some 0x08
  | .wr24IdacVhigh _ _ => some 0x09
  | .wr24IdacSetcur _ _ => some 0x0A
  | .wr24MfrSsfm _ _ => some 0x0B
  | _ => none

/-- The operations that check a received frame: `FRAME.CHK`, `READ`, `GET` in every spelling, and the read
frames of the wire (R210). -/
def checksFrame (i : Instr) : Bool :=
  match i with
  | .frameChk _ _ _ | .read _ | .get _ => true
  | .getMfrFault | .getMfrOcFault | .getMfrNocFault | .getMfrStatus | .getMfrConfig1 | .getMfrConfig2 => true
  | .getMfrChipCtrl | .getIdacVlow | .getIdacVhigh | .getIdacSetcur | .getMfrSsfm => true
  | .rd24MfrFault _ _ | .rd24MfrOcFault _ _ | .rd24MfrNocFault _ _ | .rd24MfrStatus _ _ => true
  | .rd24MfrConfig1 _ _ | .rd24MfrConfig2 _ _ | .rd24MfrChipCtrl _ _ | .rd24IdacVlow _ _ => true
  | .rd24IdacVhigh _ _ | .rd24IdacSetcur _ _ | .rd24MfrSsfm _ _ => true
  | _ => false

/-- The two operations whose result depends on a working register: they read `PEC` (R10, R21). -/
def readsPec (i : Instr) : Bool :=
  match i with
  | .pecBit _ | .pecByte _ => true
  | _ => false

/-- A state with its working registers and its last response blanked: what R10 lets an operation depend on. -/
def blankWorking (s : State) : State :=
  { s with
    pec := 0, cmd := 0, dat := 0, chk := 0, bitcnt := 0, rxdata := 0, rxchk := 0, mismatch := false,
    resp := ⟨0, false, false, .nothing⟩ }

/-- The operations one after another, each on the state the one before leaves (R75's sequences). -/
def runAll (is : List Instr) (s : State) : Host.Outcome State Fault Refusal :=
  match is with
  | [] => .next s
  | i :: rest =>
    match exec i s with
    | .next t => runAll rest t
    | .fault f => .fault f
    | .refused r => .refused r

/-- A function code's operation: every request with this code is it, on the operands its fields carry (R71). -/
def encodedAs (fn : BitVec 5) (instr : ReqWord → Instr) : Prop :=
  ∀ w : ReqWord, Decode.fn w = fn → decode (.req w) = .ok (instr w)

/-- The bits of a request that an instruction names: `fn` and its operand fields (R71, and the `fields` of
spec/opcode_table.json). A wire frame names all of its bits and has no entry here. -/
def namedBits (i : Instr) : ReqWord :=
  match i with
  | .pecSeed => 0x1F000000
  | .pecBit _ => 0x1F010000
  | .pecByte _ | .pecTbl _ | .cmdUnpack _ => 0x1FFF0000
  | .pecCalc _ _ => 0x1FFFFF00
  | .cmdPack _ _ => 0x1F7F0100
  | .frameWr _ _ | .write _ _ | .set _ _ => 0x1F7FFF00
  | .frameRdcmd _ | .read _ | .get _ => 0x1F7F0000
  | .frameChk _ _ _ => 0x1F7FFFFF
  | .sm7Dec _ | .sm7Enc _ | .b5Dec _ | .b5Enc _ | .rawDec _ | .rawEnc _ => 0x1FFF0000
  | .flgFault _ | .flgOc _ | .flgNoc _ | .flgStatus _ | .flgConfig1 _ | .flgConfig2 _ => 0x1FFF0000
  | .getMfrFault | .getMfrOcFault | .getMfrNocFault | .getMfrStatus | .getMfrConfig1 | .getMfrConfig2 => 0x1F7F0000
  | .getMfrChipCtrl | .getIdacVlow | .getIdacVhigh | .getIdacSetcur | .getMfrSsfm => 0x1F7F0000
  | .setMfrChipCtrl _ | .setIdacVlow _ | .setIdacVhigh _ | .setIdacSetcur _ | .setMfrSsfm _ => 0x1F7FFF00
  | _ => 0

/-- The number of set bits of a 24-bit error pattern (R108). -/
def weight (e : BitVec 24) : Nat := (List.range 24).countP fun i => e.getLsbD i

end Sys2Proof.Machine
end

