-- ==== Sys2Proof/Certificates/Slice0/Obligations.lean ====
section
/-! DEFINITION. The statements for the provers, from the numbered rules of spec/. -/

open Sys2Proof Sys2Proof.Machine

/-! ### The step and the decoder -/

/-- A request whose bits decode is executed on the state from which it has left the queue (R26, R48, R70;
the queue is log entry 2). -/
def Obligations.StepRunsDecodedInstruction : Prop :=
  ∀ (s : State) (p : PortItem) (rest : List PortItem) (i : Instr),
    s.pending = p :: rest → decode p = .ok i → step s = exec i { s with pending := rest }

/-- With nothing presented the block waits (log entry 17), and a request with an unassigned function code
is refused (R73 (a), R70). -/
def Obligations.StepWaitsOrRefusesUnassignedCodes : Prop :=
  (∀ s : State, s.pending = [] → step s = .next s) ∧
  (∀ (s : State) (w : ReqWord) (rest : List PortItem),
    s.pending = .req w :: rest → Decode.fn w ∈ [0x05#5, 0x06#5, 0x07#5, 0x0F#5, 0x16#5, 0x17#5] →
      step s = .next (afterRefusal { s with pending := rest }))

/-- Decode and encode agree: the word of a well-formed instruction decodes to it, with every operand at
every value (R71, R61, R62); the word of any instruction decodes to its spelled row (R72, log entry 8). -/
def Obligations.DecodeInvertsEncode : Prop :=
  (∀ i : Instr, i.wellFormed = true → decode (encode i) = .ok i) ∧
  (∀ i : Instr, decode (encode i) = .ok i.spelled) ∧
  (∀ i : Instr, i.wellFormed = true ↔ i.spelled = i)

/-- What decodes is well-formed, and its bits lie in the row of the opcode table it stands for. -/
def Obligations.DecodedWordLiesInItsRow : Prop :=
  ∀ (p : PortItem) (i : Instr), decode p = .ok i → i.wellFormed = true ∧ i.row.covers p = true

/-- The decoder accepts a request exactly when its function code is assigned (R71, R73 (a)), and a frame
exactly when it is one of the sixteen of the table: a read of a register, or a write of a read-write one, of
the default `REGTAB` (R72). -/
def Obligations.DecoderAcceptsExactlyTheTable : Prop :=
  (∀ w : ReqWord, (∃ i, decode (.req w) = .ok i) ↔
    Decode.fn w ∉ [0x05#5, 0x06#5, 0x07#5, 0x0F#5, 0x16#5, 0x17#5]) ∧
  (∀ f : FrameWord, (∃ i, decode (.wire f) = .ok i) ↔
    if cmdDir (Decode.frameCmd f) then (findReg Config.regtab (cmdAddr (Decode.frameCmd f))).isSome = true
    else (findWritable Config.regtab (cmdAddr (Decode.frameCmd f))).isSome = true)

/-- Operand bits that an operation does not name are ignored (R70). -/
def Obligations.DecoderIgnoresUnnamedBits : Prop :=
  ∀ (w w' : ReqWord) (i : Instr), decode (.req w) = .ok i → w' &&& namedBits i = w &&& namedBits i →
    decode (.req w') = .ok i

/-- A spelled `GET.<reg>` or `SET.<reg>` row means the generic operation on its address (R72, R75). -/
def Obligations.SpelledRowsMeanTheGenericOperation : Prop :=
  ∀ (i : Instr) (s : State), exec i.spelled s = exec i s

/-- Words written out from the encodings of R71 and R72 decode to what they stand for. -/
def Obligations.SampleWordsDecode : Prop :=
  decodeTableWord 32 0x04104500 = some (.pecCalc 0x10 0x45) ∧
  decodeTableWord 32 0x0C01056A = some (.frameChk 0x01 0x05 0x6A) ∧
  decodeTableWord 32 0x11FB0000 = some (.sm7Enc 0xFB) ∧
  decodeTableWord 32 0x1C0B0000 = some (.flgConfig1 0x0B) ∧
  decodeTableWord 32 0x1E080000 = some .getIdacVlow ∧
  decodeTableWord 32 0x1F0A1400 = some (.setIdacSetcur 0x14) ∧
  decodeTableWord 24 0x1145D0 = some (.rd24IdacVlow 0x45 0xD0) ∧
  decodeTableWord 24 0x1045C5 = some (.wr24IdacVlow 0x45 0xC5) ∧
  decodeTableWord 32 0x05000000 = none

/-! ### The PEC unit -/

/-- R101: `PEC.SEED` loads 0x41 and changes nothing else but the response. -/
def Obligations.PecSeedLoadsTheSeed : Prop :=
  encodedAs 0x00 (fun _ => .pecSeed) ∧
  (∀ s : State, s.params = Params.hardware →
    exec .pecSeed s = .next { s with pec := 0x41, resp := ⟨0x41, false, false, .byte 0x41⟩ })

/-- R102: `PEC.BIT`, bit by bit: the feedback enters at bits 0, 1 and 2 and the other bits shift up. -/
def Obligations.PecBitShiftsWithFeedback : Prop :=
  encodedAs 0x01 (fun w => .pecBit (Decode.bitA w)) ∧
  (∀ (s : State) (din : Bool), s.params = Params.hardware →
    ∃ p : Byte,
      exec (.pecBit din) s = .next { s with pec := p, resp := ⟨p.setWidth 24, false, false, .byte p⟩ } ∧
      p.getLsbD 0 = (s.pec.getLsbD 7 ^^ din) ∧
      p.getLsbD 1 = (s.pec.getLsbD 0 ^^ (s.pec.getLsbD 7 ^^ din)) ∧
      p.getLsbD 2 = (s.pec.getLsbD 1 ^^ (s.pec.getLsbD 7 ^^ din)) ∧
      (∀ k, 3 ≤ k → k ≤ 7 → p.getLsbD k = s.pec.getLsbD (k - 1)))

/-- R103: `PEC.BYTE` leaves `T[PEC ^ b]` in `PEC`, and the same state as eight `PEC.BIT`, most significant
bit first. -/
def Obligations.PecByteIsEightBitSteps : Prop :=
  encodedAs 0x02 (fun w => .pecByte (Decode.opA w)) ∧
  (∀ (s : State) (b : Byte), s.params = Params.hardware →
    exec (.pecByte b) s = .next { s with
      pec := pecLookup Config.pecTable (s.pec ^^^ b),
      resp := ⟨(pecLookup Config.pecTable (s.pec ^^^ b)).setWidth 24, false, false,
        .byte (pecLookup Config.pecTable (s.pec ^^^ b))⟩ } ∧
    runAll [.pecBit (b.getLsbD 7), .pecBit (b.getLsbD 6), .pecBit (b.getLsbD 5), .pecBit (b.getLsbD 4),
      .pecBit (b.getLsbD 3), .pecBit (b.getLsbD 2), .pecBit (b.getLsbD 1), .pecBit (b.getLsbD 0)] s =
      exec (.pecByte b) s)

/-- R105, for every generator: eight bit steps from `p` on `b[7]` to `b[0]` end in `T[p ^ b]`; and the table
of this hardware is the one R104 prints. -/
def Obligations.TableStepLaw : Prop :=
  (∀ (P : Params) (p b : Byte), P.pecMsbFirst = true →
    pecBitsStep P p [b.getLsbD 7, b.getLsbD 6, b.getLsbD 5, b.getLsbD 4, b.getLsbD 3, b.getLsbD 2, b.getLsbD 1, b.getLsbD 0] =
      pecLookup (pecTableOf P) (p ^^^ b)) ∧
  pecTableOf Params.hardware = Config.pecTable

/-- R104: `PEC.TBL i` returns `T[i]` and changes no register; `T[i]` is eight steps on `i` from 0x00 and the
remainder of `i(x) * x^8` by `G(x)`; `T` is linear, a permutation, and has the basis R104 lists. -/
def Obligations.PecTblReturnsTheTableEntry : Prop :=
  encodedAs 0x03 (fun w => .pecTbl (Decode.opA w)) ∧
  (∀ (s : State) (i : Byte), s.tbl = Config.pecTable →
    exec (.pecTbl i) s = .next { s with
      resp := ⟨(pecLookup Config.pecTable i).setWidth 24, false, false, .byte (pecLookup Config.pecTable i)⟩ }) ∧
  (∀ i : Byte, pecLookup Config.pecTable i = pecByteStep Params.hardware 0x00 i ∧
    pecLookup Config.pecTable i = gf2Remainder 0x07 (0x00#8 ++ i)) ∧
  (∀ i j : Byte, pecLookup Config.pecTable (i ^^^ j) = pecLookup Config.pecTable i ^^^ pecLookup Config.pecTable j) ∧
  Function.Bijective (pecLookup Config.pecTable) ∧
  [0x00#8, 0x01#8, 0x02#8, 0x04#8, 0x08#8, 0x10#8, 0x20#8, 0x40#8, 0x80#8, 0x51#8, 0xFF#8].map (pecLookup Config.pecTable) =
    [0x00#8, 0x07#8, 0x0E#8, 0x1C#8, 0x38#8, 0x70#8, 0xE0#8, 0xC7#8, 0x89#8, 0xB0#8, 0xF3#8]

/-- R106: `PEC.CALC` returns `T[T[0x41 ^ cmd] ^ data]` and leaves it in `PEC`; it leaves the state that
`PEC.SEED`, `PEC.BYTE cmd`, `PEC.BYTE data` leave; the closed form; and 0x41 is the only command byte for which
data 0x00 has check byte 0x00. -/
def Obligations.PecCalcReturnsTheCheckByte : Prop :=
  encodedAs 0x04 (fun w => .pecCalc (Decode.opA w) (Decode.opB w)) ∧
  (∀ (s : State) (cmd data : Byte), s.params = Params.hardware →
    exec (.pecCalc cmd data) s = .next { s with
      pec := pecCheckByTable Params.hardware Config.pecTable cmd data,
      resp := ⟨(pecCheckByTable Params.hardware Config.pecTable cmd data).setWidth 24, false, false,
        .byte (pecCheckByTable Params.hardware Config.pecTable cmd data)⟩ } ∧
    runAll [.pecSeed, .pecByte cmd, .pecByte data] s = exec (.pecCalc cmd data) s) ∧
  (∀ cmd data : Byte, pecCheckByTable Params.hardware Config.pecTable cmd data =
      pecLookup Config.pecTable (pecLookup Config.pecTable (0x41 ^^^ cmd) ^^^ data) ∧
    pecCheckByTable Params.hardware Config.pecTable cmd data =
      pecLookup Config.pecTable (pecLookup Config.pecTable cmd ^^^ data) ^^^ 0x4E) ∧
  (∀ cmd : Byte, pecCheck Params.hardware cmd 0x00 = 0x00 ↔ cmd = 0x41) ∧
  pecCheck Params.hardware 0x00 0x00 = 0x4E ∧ pecCheck Params.hardware 0x11 0xFF = 0xFF ∧
  pecCheck Params.hardware 0x10 0x45 = 0xC5

/-- The lookup-table realisation and the bit-serial one agree on every input: on this hardware with the printed table
(R107), and for every generator, seed and final exclusive-or. That a final exclusive-or other than 0x00 enters as it
does in the first clause is the model's choice (log entry 15). -/
def Obligations.TableAndBitSerialRealisationsAgree : Prop :=
  (∀ (P : Params) (cmd data : Byte), P.pecMsbFirst = true →
    pecCheckByTable P (pecTableOf P) cmd data = pecCheck P cmd data) ∧
  (∀ cmd data : Byte, pecCheckByTable Params.hardware Config.pecTable cmd data = pecCheck Params.hardware cmd data)

/-- The check byte is the remainder of long division over GF(2) of the 16-bit message (the seed added to its first
byte) times `x^8` by the generator: on this hardware with 0x07 and 0x41 and no final exclusive-or (R100), and for
every generator and seed. Where a final exclusive-or other than 0x00 stands, in the first clause, is the model's choice
(log entry 15). -/
def Obligations.CheckByteIsThePolynomialRemainder : Prop :=
  (∀ (P : Params) (cmd data : Byte), P.pecMsbFirst = true →
    pecCheck P cmd data = gf2Remainder P.pecPoly ((P.pecInit ^^^ cmd) ++ data) ^^^ P.pecXorOut) ∧
  (∀ cmd data : Byte, pecCheck Params.hardware cmd data = gf2Remainder 0x07 ((0x41#8 ^^^ cmd) ++ data))

/-- R109: an accumulator that runs alongside the wire over `F[23]` to `F[8]` ends in the check byte (with a final
exclusive-or other than 0x00 by the model's choice, log entry 15). -/
def Obligations.SerialScheduleGivesTheCheckByte : Prop :=
  ∀ (P : Params) (cmd data check : Byte), P.pecMsbFirst = true →
    pecAlongWire P (cmd ++ data ++ check) = pecCheck P cmd data

/-- R108 (a) and (b): the seed cancels in a difference of check bytes; with either byte fixed the check
byte is a bijection of the other. -/
def Obligations.CheckByteIsAffineAndBijective : Prop :=
  (∀ (P : Params) (c d c' d' : Byte), P.pecMsbFirst = true →
    pecCheck P c d ^^^ pecCheck P c' d' = pecLookup (pecTableOf P) (pecLookup (pecTableOf P) (c ^^^ c') ^^^ (d ^^^ d'))) ∧
  (∀ c : Byte, Function.Bijective fun d => pecCheck Params.hardware c d) ∧
  (∀ d : Byte, Function.Bijective fun c => pecCheck Params.hardware c d)

/-- R108 (b) and (c): which error patterns escape; none of odd weight, none of weight 1 to 3, none inside one
byte. -/
def Obligations.LightFrameErrorsAreDetected : Prop :=
  ∀ F E : FrameWord, frameWellFormed Params.hardware F = true →
    (frameWellFormed Params.hardware (F ^^^ E) = true ↔
      E.extractLsb' 0 8 =
        pecLookup Config.pecTable (pecLookup Config.pecTable (E.extractLsb' 16 8) ^^^ E.extractLsb' 8 8)) ∧
    (E ≠ 0 → (weight E ≤ 3 ∨ weight E % 2 = 1 ∨ E &&& 0x00FFFF = 0 ∨ E &&& 0xFF00FF = 0 ∨ E &&& 0xFFFF00 = 0) →
      frameWellFormed Params.hardware (F ^^^ E) = false)

/-! ### The frame family -/

/-- R120: `CMD.PACK` returns `2 * addr + dir`, on every address, and changes no register. -/
def Obligations.CmdPackDoublesTheAddress : Prop :=
  encodedAs 0x08 (fun w => .cmdPack (Decode.addrA w) (Decode.bitB w)) ∧
  (∀ (s : State) (addr : Addr) (dir : Bool),
    exec (.cmdPack addr dir) s = .next { s with
      resp := ⟨BitVec.ofNat 24 (2 * addr.toNat + dir.toNat), false, false,
        .byte (BitVec.ofNat 8 (2 * addr.toNat + dir.toNat))⟩ })

/-- R121: `CMD.UNPACK` returns `cmd[7:1]` and `cmd[0]`, and is the inverse of packing both ways. -/
def Obligations.CmdUnpackInvertsCmdPack : Prop :=
  encodedAs 0x09 (fun w => .cmdUnpack (Decode.opA w)) ∧
  (∀ (s : State) (cmd : Byte),
    exec (.cmdUnpack cmd) s = .next { s with
      resp := ⟨BitVec.ofNat 24 (cmd.toNat / 2 + 256 * (cmd.toNat % 2)), false, false,
        .command (BitVec.ofNat 7 (cmd.toNat / 2)) (cmd.toNat % 2 == 1)⟩ }) ∧
  (∀ (addr : Addr) (dir : Bool), cmdAddr (packCmd addr dir) = addr ∧ cmdDir (packCmd addr dir) = dir) ∧
  (∀ cmd : Byte, packCmd (cmdAddr cmd) (cmdDir cmd) = cmd)

/-- R122: `FRAME.WR` writes `CMD`, `DAT`, `PEC` and `CHK`, returns their frame, sends nothing; the frame is
well-formed, and on this hardware data 0x00 never has check byte 0x00. -/
def Obligations.FrameWrPacksAWellFormedFrame : Prop :=
  encodedAs 0x0A (fun w => .frameWr (Decode.addrA w) (Decode.opB w)) ∧
  (∀ (s : State) (addr : Addr) (data : Byte),
    exec (.frameWr addr data) s = .next { afterPack s addr data with
      resp := ⟨writeFrameWord s addr data, false, false, .frame (writeFrameWord s addr data)⟩ } ∧
    frameWellFormed s.params (writeFrameWord s addr data) = true ∧
    (s.params = Params.hardware → writeCheck s addr 0x00 ≠ 0x00))

/-- R123: `FRAME.RDCMD` writes and returns the read command `2 * addr + 1`. -/
def Obligations.FrameRdcmdPacksTheReadCommand : Prop :=
  encodedAs 0x0B (fun w => .frameRdcmd (Decode.addrA w)) ∧
  (∀ (s : State) (addr : Addr),
    exec (.frameRdcmd addr) s = .next { s with
      cmd := BitVec.ofNat 8 (2 * addr.toNat + 1),
      resp := ⟨BitVec.ofNat 24 (2 * addr.toNat + 1), false, false, .byte (BitVec.ofNat 8 (2 * addr.toNat + 1))⟩ })

/-- R124: `FRAME.CHK` returns the data byte unmodified with the check byte computed; `MISMATCH` and the report
say whether it differs from the one received; and the corner cases of this hardware. -/
def Obligations.FrameChkComparesAndReturnsTheData : Prop :=
  encodedAs 0x0C (fun w => .frameChk (Decode.addrA w) (Decode.opB w) (Decode.opC w)) ∧
  (∀ (s : State) (addr : Addr) (data check : Byte),
    exec (.frameChk addr data check) s = .next { afterCheck s addr data check with
      resp := ⟨0x00#8 ++ readCheck s addr data ++ data, readCheck s addr data != check, false, .byte data⟩ } ∧
    (s.params = Params.hardware →
      (0x01 ≤ addr → addr ≤ 0x0B → readCheck s addr 0x00 ≠ 0x00) ∧ (readCheck s addr 0xFF = 0xFF ↔ addr = 0x08)))

/-! ### The transactions -/

/-- R125: `WRITE` to a read-write register sends one well-formed frame of three bytes between `Select` and
`Deselect`, writes `CMD`, `DAT`, `CHK`, `PEC` and the bit counter, keeps every other register of the block and
returns the frame; otherwise it is refused and nothing changes. -/
def Obligations.WriteSendsOneFrame : Prop :=
  encodedAs 0x0D (fun w => .write (Decode.addrA w) (Decode.opB w)) ∧
  (∀ (s : State) (addr : Addr) (data : Byte),
    ((findWritable s.regtab addr).isSome = true →
      ∃ (x y z : Byte) (bits : BitVec 5) (script : List Byte) (drawn : Nat) (dev : RefDevice),
        exec (.write addr data) s = .next { afterWrite s addr data x y z with
          bitcnt := bits, script := script, drawn := drawn, dev := dev,
          resp := ⟨writeFrameWord s addr data, false, false, .frame (writeFrameWord s addr data)⟩ }) ∧
    (findWritable s.regtab addr = none → exec (.write addr data) s = .next (afterRefusal s)))

/-- R126: `READ` of a register sends its read command, receives a data byte and a check byte while driving
`RD_FILL`, checks them after `Deselect`, and returns both bytes and the mismatch, fail-open; an address outside
`REGTAB` is refused and nothing changes. -/
def Obligations.ReadReturnsTheReceivedByte : Prop :=
  encodedAs 0x0E (fun w => .read (Decode.addrA w)) ∧
  (∀ (s : State) (addr : Addr),
    ((findReg s.regtab addr).isSome = true → s.params.failClosed = false →
      ∃ (x data check : Byte) (bits : BitVec 5) (script : List Byte) (drawn : Nat) (dev : RefDevice),
        exec (.read addr) s = .next { afterRead s addr x data check with
          bitcnt := bits, script := script, drawn := drawn, dev := dev,
          resp := ⟨0x00#8 ++ check ++ data, readCheck s addr data != check, false, .byte data⟩ }) ∧
    (findReg s.regtab addr = none → exec (.read addr) s = .next (afterRefusal s)))

/-- R23, R26 as the model reads them (log entry 6): a transaction leaves the bit counter at 24, the end of the frame,
and an instruction that makes none leaves it as it was. -/
def Obligations.BitCounterEndsAtTwentyFour : Prop :=
  ∀ (i : Instr) (s t : State), exec i s = .next t →
    (Event.select ∈ t.hist.drop s.hist.length → t.bitcnt = 24) ∧
    (Event.select ∉ t.hist.drop s.hist.length → t.bitcnt = s.bitcnt)

/-- R46 with R125 and R126: with the oracle attached the bytes received are the oracle's, whatever they are;
the block's own effect is the same for every answer (the script and its count are log entry 3, the bit counter log
entry 6). -/
def Obligations.TransactionsTakeAnyOracleAnswer : Prop :=
  ∀ (s : State) (addr : Addr) (data x y z : Byte) (rest : List Byte), oracleAnswers s x y z rest →
    ((findWritable s.regtab addr).isSome = true →
      exec (.write addr data) s = .next { tookThree (afterWrite s addr data x y z) rest with
        resp := ⟨writeFrameWord s addr data, false, false, .frame (writeFrameWord s addr data)⟩ }) ∧
    ((findReg s.regtab addr).isSome = true → s.params.failClosed = false →
      exec (.read addr) s = .next { tookThree (afterRead s addr x y z) rest with
        resp := ⟨0x00#8 ++ z ++ y, readCheck s addr y != z, false, .byte y⟩ })

/-- R47: with the reference device attached, a write stores its data byte at its address and a read returns the
byte stored there with the right check byte (the bit counter is log entry 6, the unlisted byte log entry 12). -/
def Obligations.ReferenceDeviceStoresAndAnswers : Prop :=
  ∀ (s : State) (addr : Addr) (data : Byte), s.attached = .reference → deviceHas addr = true →
    ((findWritable s.regtab addr).isSome = true →
      exec (.write addr data) s = .next { afterWrite s addr data 0x00 0x00 0x00 with
        dev := ⟨Memory.write s.dev.mem addr.toNat data, []⟩,
        resp := ⟨writeFrameWord s addr data, false, false, .frame (writeFrameWord s addr data)⟩ }) ∧
    ((findReg s.regtab addr).isSome = true →
      exec (.read addr) s = .next
        { afterRead s addr 0x00 (Memory.read s.dev.mem addr.toNat)
            (readCheck s addr (Memory.read s.dev.mem addr.toNat)) with
          dev := ⟨s.dev.mem, []⟩,
          resp := ⟨0x00#8 ++ readCheck s addr (Memory.read s.dev.mem addr.toNat) ++ Memory.read s.dev.mem addr.toNat,
            false, false, .byte (Memory.read s.dev.mem addr.toNat)⟩ })

/-- R128, the parameter value that is not this hardware's (log entries 14, 3 and 6): fail-closed, a mismatching `READ` or
`GET` leaves what it leaves fail-open but returns no data. -/
def Obligations.FailClosedWithholdsTheData : Prop :=
  ∀ (s : State) (addr : Addr) (x data check : Byte) (rest : List Byte), oracleAnswers s x data check rest →
    (findReg s.regtab addr).isSome = true → s.params.failClosed = true → readCheck s addr data ≠ check →
      exec (.read addr) s = .next { tookThree (afterRead s addr x data check) rest with
        resp := ⟨0x00#8 ++ check ++ 0x00#8, true, false, .nothing⟩ } ∧
      exec (.get addr) s = .next { tookThree (afterRead s addr x data check) rest with
        resp := ⟨0, true, false, .nothing⟩ }

/-- R73 (b) and (c), R70: a `READ` or `GET` of an address outside `REGTAB`, and a `WRITE` or `SET` of one that is
not there read-write, are refused and nothing but the response changes; so is, by the model's
choice (log entry 16), a `SET` of a read-write register whose kind has no encoder. -/
def Obligations.RequestsOutsideTheTableAreRefused : Prop :=
  ∀ (s : State) (addr : Addr) (val : Byte),
    (findReg s.regtab addr = none →
      exec (.read addr) s = .next (afterRefusal s) ∧ exec (.get addr) s = .next (afterRefusal s)) ∧
    (findWritable s.regtab addr = none →
      exec (.write addr val) s = .next (afterRefusal s) ∧ exec (.set addr val) s = .next (afterRefusal s)) ∧
    (∀ row, findWritable s.regtab addr = some row → encodeKind s.params row.kind val = none →
      exec (.set addr val) s = .next (afterRefusal s))

/-! ### The field converters -/

/-- R141: `SM7.DEC` returns the magnitude `bits[5:0]`, negated when bit 6 is set; bit 7 is ignored. -/
def Obligations.Sm7DecReturnsTheSignedMagnitude : Prop :=
  encodedAs 0x10 (fun w => .sm7Dec (Decode.opA w)) ∧
  (∀ (s : State) (bits : Byte), s.params.sm7Variant = .signMagnitude →
    ∃ v : Int, v = (if bits.toNat / 64 % 2 = 1 then -((bits.toNat % 64 : Nat) : Int) else ((bits.toNat % 64 : Nat) : Int)) ∧
      exec (.sm7Dec bits) s = .next { s with resp := ⟨(BitVec.ofInt 8 v).setWidth 24, false, false, .value v⟩ })

/-- R142: `SM7.ENC` clamps to -63..63 and returns `v`, or `0x40 | -v` for a negative `v`. -/
def Obligations.Sm7EncClampsAndEncodes : Prop :=
  encodedAs 0x11 (fun w => .sm7Enc (Decode.opA w)) ∧
  (∀ (s : State) (val : Byte), s.params.sm7Variant = .signMagnitude →
    ∃ (v : Int) (b : Byte), v = max (-63) (min 63 val.toInt) ∧
      b = (if 0 ≤ v then BitVec.ofInt 8 v else BitVec.ofInt 8 (64 - v)) ∧
      exec (.sm7Enc val) s = .next { s with resp := ⟨b.setWidth 24, false, false, .byte b⟩ })

/-- R143: the laws of the sign-magnitude converters. -/
def Obligations.Sm7ConvertersRoundTrip : Prop :=
  (∀ v : Byte, sm7Decode .signMagnitude (sm7Encode .signMagnitude v) = max (-63) (min 63 v.toInt)) ∧
  (∀ b : Byte, sm7Encode .signMagnitude (u8 (sm7Decode .signMagnitude b)) = if b &&& 0x7F = 0x40 then 0x00 else b &&& 0x7F) ∧
  (∀ v w : Byte, -63 ≤ v.toInt → v.toInt ≤ 63 → -63 ≤ w.toInt → w.toInt ≤ 63 →
    sm7Encode .signMagnitude v = sm7Encode .signMagnitude w → v = w) ∧
  (∀ b : Byte, (∃ v : Byte, sm7Encode .signMagnitude v = b) ↔ (b.toNat < 128 ∧ b ≠ 0x40)) ∧
  (∀ v : Byte, -63 ≤ v.toInt → v.toInt ≤ 63 → ∃ b : Byte, sm7Decode .signMagnitude b = v.toInt) ∧
  (∀ b : Byte, -63 ≤ sm7Decode .signMagnitude b ∧ sm7Decode .signMagnitude b ≤ 63) ∧
  (∀ b : Byte, sm7Decode .signMagnitude b = 0 ↔ (b &&& 0x7F = 0x00 ∨ b &&& 0x7F = 0x40))

/-- R144: `B5.ENC` clamps to 0..31 and returns `(32 - v) mod 16` for `v` at least 16, else `v + 16`. -/
def Obligations.B5EncClampsAndRebiases : Prop :=
  encodedAs 0x13 (fun w => .b5Enc (Decode.opA w)) ∧
  (∀ (s : State) (val : Byte), s.params.b5Variant = .document →
    ∃ (v : Int) (b : Byte), v = max 0 (min 31 val.toInt) ∧
      b = (if 16 ≤ v then BitVec.ofInt 8 ((32 - v) % 16) else BitVec.ofInt 8 (v + 16)) ∧
      exec (.b5Enc val) s = .next { s with resp := ⟨b.setWidth 24, false, false, .byte b⟩ })

/-- R145: `B5.DEC` returns the nibble when bit 4 is set, else 16 plus its two's complement; bits 7:5 are
ignored. -/
def Obligations.B5DecReturnsTheUnbiasedValue : Prop :=
  encodedAs 0x12 (fun w => .b5Dec (Decode.opA w)) ∧
  (∀ (s : State) (bits : Byte), s.params.b5Variant = .document →
    ∃ v : Nat, v = (if bits.toNat / 16 % 2 = 1 then bits.toNat % 16 else 16 + (16 - bits.toNat % 16) % 16) ∧
      exec (.b5Dec bits) s = .next { s with resp := ⟨BitVec.ofNat 24 v, false, false, .value v⟩ })

/-- R146: the laws of the biased converters. -/
def Obligations.B5ConvertersRoundTrip : Prop :=
  (∀ v : Byte, b5Decode .document (b5Encode .document v) = max 0 (min 31 v.toInt)) ∧
  (∀ b : Byte, b5Encode .document (u8 (b5Decode .document b)) = b &&& 0x1F) ∧
  (∀ v w : Byte, v.toNat ≤ 31 → w.toNat ≤ 31 → b5Encode .document v = b5Encode .document w → v = w) ∧
  (∀ b : Byte, (∃ v : Byte, v.toNat ≤ 31 ∧ b5Encode .document v = b) ↔ b.toNat ≤ 31)

/-- R147, R148: the raw converters return their byte and change no register. -/
def Obligations.RawConvertersPassTheByte : Prop :=
  encodedAs 0x14 (fun w => .rawDec (Decode.opA w)) ∧ encodedAs 0x15 (fun w => .rawEnc (Decode.opA w)) ∧
  (∀ (s : State) (b : Byte),
    exec (.rawDec b) s = .next { s with resp := ⟨b.setWidth 24, false, false, .byte b⟩ } ∧
    exec (.rawEnc b) s = .next { s with resp := ⟨b.setWidth 24, false, false, .byte b⟩ })

/-- The other readings (spec/93 U2 and U3, log entry 21) are inverses on the legal range too, and agree with this
hardware where the spec says. -/
def Obligations.AlternativeConvertersRoundTrip : Prop :=
  (∀ v : Byte, sm7Decode .twosLow6 (sm7Encode .twosLow6 v) = max (-63) (min 63 v.toInt)) ∧
  (∀ v : Byte, b5Decode .offsetBinary (b5Encode .offsetBinary v) = max 0 (min 31 v.toInt)) ∧
  (∀ b : Byte, b5Encode .offsetBinary (u8 (b5Decode .offsetBinary b)) = b &&& 0x1F) ∧
  (∀ b : Byte, sm7Decode .twosLow6 b = sm7Decode .signMagnitude b ↔
    (b.getLsbD 6 = false ∨ b &&& 0x7F = 0x40 ∨ b &&& 0x7F = 0x60)) ∧
  (∀ v : Byte, v.toNat ≤ 31 → (b5Encode .offsetBinary v = b5Encode .document v ↔ (v.toNat ≤ 16 ∨ v.toNat = 24)))

/-! ### The flag unpackers -/

/-- R160 to R164 and R166: each unpacker without selectors returns exactly the set of flags whose mapped bit is
set, under every `FLAG_MAP`, with their mask, and changes no register; and the source's property 5 (R161). That
last clause rests on the default map (log entry 10) and on the order of the model's list (log entry 19). -/
def Obligations.UnpackersReportExactlyTheActiveFlags : Prop :=
  encodedAs 0x18 (fun w => .flgFault (Decode.opA w)) ∧ encodedAs 0x19 (fun w => .flgOc (Decode.opA w)) ∧
  encodedAs 0x1A (fun w => .flgNoc (Decode.opA w)) ∧ encodedAs 0x1B (fun w => .flgStatus (Decode.opA w)) ∧
  encodedAs 0x1D (fun w => .flgConfig2 (Decode.opA w)) ∧
  (∀ (s : State) (b : Byte) (row : Instr × FlagReg),
    row ∈ [(Instr.flgFault b, FlagReg.fault), (.flgOc b, .oc), (.flgNoc b, .noc), (.flgStatus b, .status), (.flgConfig2 b, .config2)] →
    ∃ (mask : Byte) (fs : List Flag),
      exec row.1 s = .next { s with resp := ⟨mask.setWidth 24, false, false, .flags fs⟩ } ∧
      (∀ k, k < 8 → (mask.getLsbD k = true ↔ (flagAt s.flagMap row.2 k).isSome = true ∧ b.getLsbD k = true)) ∧
      (∀ f, f ∈ fs ↔ ∃ k, k < 8 ∧ flagAt s.flagMap row.2 k = some f ∧ b.getLsbD k = true) ∧
      fs.Nodup) ∧
  (∀ s : State, s.flagMap = Config.flagMap →
    exec (.flgFault 0x05) s = .next { s with resp := ⟨0x000005, false, false, .flags [.overTemp, .v5Undervoltage]⟩ })

/-- R165, R167: `FLG.CONFIG1` returns the flags outside the selector fields, and for each selector exactly one
value of its table or the reserved code. -/
def Obligations.FlgConfig1DecodesSelectors : Prop :=
  encodedAs 0x1C (fun w => .flgConfig1 (Decode.opA w)) ∧
  (∀ (s : State) (b : Byte),
    ∃ (mask : Byte) (fs : List Flag) (ilim : IlimValue) (drvcc : DrvccValue),
      exec (.flgConfig1 b) s = .next { s with
        resp := ⟨0#11 ++ BitVec.ofNat 2 (b.toNat / 2 ^ s.flagMap.drvccLo) ++ BitVec.ofNat 3 b.toNat ++ mask, false, false,
          .config1 fs ilim drvcc⟩ } ∧
      (∀ k, k < 8 → (mask.getLsbD k = true ↔
        3 ≤ k ∧ k ≠ s.flagMap.drvccLo ∧ k ≠ s.flagMap.drvccLo + 1 ∧
          (flagAt s.flagMap .config1 k).isSome = true ∧ b.getLsbD k = true)) ∧
      (∀ f, f ∈ fs ↔ ∃ k, k < 8 ∧ mask.getLsbD k = true ∧ flagAt s.flagMap .config1 k = some f) ∧
      fs.Nodup ∧
      (∀ v, s.flagMap.ilim.getD (b.toNat % 8) none = some v → ilim = .millivolts v) ∧
      (s.flagMap.ilim.getD (b.toNat % 8) none = none → ilim = .reserved (BitVec.ofNat 3 b.toNat)) ∧
      (∀ v, s.flagMap.drvcc.getD (b.toNat / 2 ^ s.flagMap.drvccLo % 4) none = some v → drvcc = .volts v) ∧
      (s.flagMap.drvcc.getD (b.toNat / 2 ^ s.flagMap.drvccLo % 4) none = none →
        drvcc = .reserved (BitVec.ofNat 2 (b.toNat / 2 ^ s.flagMap.drvccLo))))

/-- The default `FLAG_MAP` (log entry 10, and for the one list shown the order of log entry 19): the masks of
the six unpackers, the source's two worked examples (R161, R165), and the selector tables of R33. -/
def Obligations.DefaultFlagMapExamples : Prop :=
  (∀ b : Byte,
    flagMask Config.flagMap .fault b = b &&& 0x7F ∧ flagMask Config.flagMap .oc b = b &&& 0x3F ∧
    flagMask Config.flagMap .noc b = b &&& 0x3F ∧ flagMask Config.flagMap .status b = b &&& 0x07 ∧
    flagMask Config.flagMap .config1 b = b &&& 0x20 ∧ flagMask Config.flagMap .config2 b = b &&& 0x1F) ∧
  activeFlags Config.flagMap .fault 0x05 = [.overTemp, .v5Undervoltage] ∧
  (∀ c : BitVec 3, selectIlim Config.flagMap c =
    if c.toNat < 5 then .millivolts ((10 * (c.toNat + 1) : Nat) : Rat) else .reserved c) ∧
  selectDrvcc Config.flagMap 0 = .volts 5 ∧ selectDrvcc Config.flagMap 1 = .volts 8 ∧
  selectDrvcc Config.flagMap 2 = .volts 10 ∧ selectDrvcc Config.flagMap 3 = .reserved 3

/-! ### Typed register access -/

/-- R180: `GET` of a register makes one read transaction and returns `DEC(kind, d)`, the raw byte and the
mismatch, fail-open; an address outside `REGTAB` is refused and nothing changes. -/
def Obligations.GetReadsThenDecodes : Prop :=
  encodedAs 0x1E (fun w => (Instr.get (Decode.addrA w)).spelled) ∧
  (∀ (s : State) (addr : Addr),
    (∀ row, findReg s.regtab addr = some row → s.params.failClosed = false →
      ∃ (x data check : Byte) (bits : BitVec 5) (script : List Byte) (drawn : Nat) (dev : RefDevice),
        exec (.get addr) s = .next { afterRead s addr x data check with
          bitcnt := bits, script := script, drawn := drawn, dev := dev,
          resp := ⟨data ++ 0#3 ++ (decodeKind s.params s.flagMap row.kind data).bits, readCheck s addr data != check, false,
            (decodeKind s.params s.flagMap row.kind data).decoded⟩ }) ∧
    (findReg s.regtab addr = none → exec (.get addr) s = .next (afterRefusal s)))

/-- R182 to R192: each spelled getter sends its read command and returns what the decode operation of its
register returns on the byte received, with that raw byte and the mismatch. That three bytes leave the oracle's script
and its count rises by 3 is the model's choice (log entry 3). -/
def Obligations.SpelledGettersReadTheirRegister : Prop :=
  ∀ (s : State) (x data check : Byte) (rest : List Byte) (row : Instr × Addr × Byte × Instr),
    s.params = Params.hardware → s.regtab = Config.regtab → oracleAnswers s x data check rest →
    row ∈ [(Instr.getMfrFault, 0x01#7, 0x03#8, Instr.flgFault data), (.getMfrOcFault, 0x02#7, 0x05#8, .flgOc data),
      (.getMfrNocFault, 0x03#7, 0x07#8, .flgNoc data), (.getMfrStatus, 0x04#7, 0x09#8, .flgStatus data),
      (.getMfrConfig1, 0x05#7, 0x0B#8, .flgConfig1 data), (.getMfrConfig2, 0x06#7, 0x0D#8, .flgConfig2 data),
      (.getMfrChipCtrl, 0x07#7, 0x0F#8, .rawDec data), (.getIdacVlow, 0x08#7, 0x11#8, .sm7Dec data),
      (.getIdacVhigh, 0x09#7, 0x13#8, .sm7Dec data), (.getIdacSetcur, 0x0A#7, 0x15#8, .b5Dec data),
      (.getMfrSsfm, 0x0B#7, 0x17#8, .rawDec data)] →
    ∃ t u : State, exec row.1 s = .next t ∧ exec row.2.2.2 s = .next u ∧
      t = { tookThree (afterRead s row.2.1 x data check) rest with bitcnt := t.bitcnt, resp := t.resp } ∧
      t.cmd = row.2.2.1 ∧ t.resp.decoded = u.resp.decoded ∧
      t.resp.y = data ++ 0#3 ++ u.resp.y.extractLsb' 0 13 ∧
      t.resp.flag = (readCheck s row.2.1 data != check) ∧ t.resp.refused = false

/-- R181: `SET` of a read-write register sends the byte `ENC(kind, val)` in one write transaction; an address
that is not in `REGTAB` read-write is refused and nothing changes. -/
def Obligations.SetEncodesThenWrites : Prop :=
  encodedAs 0x1F (fun w => (Instr.set (Decode.addrA w) (Decode.opB w)).spelled) ∧
  (∀ (s : State) (addr : Addr) (val : Byte),
    (∀ row data, findWritable s.regtab addr = some row → encodeKind s.params row.kind val = some data →
      ∃ (x y z : Byte) (bits : BitVec 5) (script : List Byte) (drawn : Nat) (dev : RefDevice),
        exec (.set addr val) s = .next { afterWrite s addr data x y z with
          bitcnt := bits, script := script, drawn := drawn, dev := dev,
          resp := ⟨writeFrameWord s addr data, false, false, .frame (writeFrameWord s addr data)⟩ }) ∧
    (findWritable s.regtab addr = none → exec (.set addr val) s = .next (afterRefusal s)))

/-- R193 to R197: each spelled setter sends its write command with the byte its register's encoder gives. -/
def Obligations.SpelledSettersWriteTheirRegister : Prop :=
  ∀ (s : State) (val : Byte) (row : Instr × Addr × Byte × Byte),
    s.params = Params.hardware → s.regtab = Config.regtab →
    row ∈ [(Instr.setMfrChipCtrl val, 0x07#7, 0x0E#8, val),
      (.setIdacVlow val, 0x08#7, 0x10#8, sm7Encode .signMagnitude val),
      (.setIdacVhigh val, 0x09#7, 0x12#8, sm7Encode .signMagnitude val),
      (.setIdacSetcur val, 0x0A#7, 0x14#8, b5Encode .document val),
      (.setMfrSsfm val, 0x0B#7, 0x16#8, val)] →
    packCmd row.2.1 false = row.2.2.1 ∧
    ∃ (x y z : Byte) (bits : BitVec 5) (script : List Byte) (drawn : Nat) (dev : RefDevice),
      exec row.1 s = .next { afterWrite s row.2.1 row.2.2.2 x y z with
        bitcnt := bits, script := script, drawn := drawn, dev := dev,
        resp := ⟨writeFrameWord s row.2.1 row.2.2.2, false, false, .frame (writeFrameWord s row.2.1 row.2.2.2)⟩ }

/-- R62, R126 (log entries 7 and 6): a read frame of the wire is the read transaction of its register in which the device
answers its data and check bytes. -/
def Obligations.ReadFramesAreReadTransactions : Prop :=
  ∀ (s : State) (data check : Byte) (row : Instr × Addr), s.regtab = Config.regtab → s.params.failClosed = false →
    row ∈ [(Instr.rd24MfrFault data check, 0x01#7), (.rd24MfrOcFault data check, 0x02#7), (.rd24MfrNocFault data check, 0x03#7),
      (.rd24MfrStatus data check, 0x04#7), (.rd24MfrConfig1 data check, 0x05#7), (.rd24MfrConfig2 data check, 0x06#7),
      (.rd24MfrChipCtrl data check, 0x07#7), (.rd24IdacVlow data check, 0x08#7), (.rd24IdacVhigh data check, 0x09#7),
      (.rd24IdacSetcur data check, 0x0A#7), (.rd24MfrSsfm data check, 0x0B#7)] →
    encode row.1 = .wire (packCmd row.2 true ++ data ++ check) ∧
    ∃ (x : Byte) (script : List Byte) (drawn : Nat) (dev : RefDevice),
      exec row.1 s = .next { afterRead s row.2 x data check with
        script := script, drawn := drawn, dev := dev,
        resp := ⟨0x00#8 ++ check ++ data, readCheck s row.2 data != check, false, .byte data⟩ }

/-- R61, R125 (log entries 7 and 6): a well-formed write frame of the wire is the write transaction of its register and
data byte; with another check byte it is no frame of the block's, and is refused. -/
def Obligations.WriteFramesAreWriteTransactions : Prop :=
  ∀ (s : State) (data check : Byte) (row : Instr × Addr), s.regtab = Config.regtab →
    row ∈ [(Instr.wr24MfrChipCtrl data check, 0x07#7), (.wr24IdacVlow data check, 0x08#7), (.wr24IdacVhigh data check, 0x09#7),
      (.wr24IdacSetcur data check, 0x0A#7), (.wr24MfrSsfm data check, 0x0B#7)] →
    encode row.1 = .wire (packCmd row.2 false ++ data ++ check) ∧
    (frameWellFormed s.params (packCmd row.2 false ++ data ++ check) = true →
      ∃ (x y z : Byte) (script : List Byte) (drawn : Nat) (dev : RefDevice),
        exec row.1 s = .next { afterWrite s row.2 data x y z with
          script := script, drawn := drawn, dev := dev,
          resp := ⟨packCmd row.2 false ++ data ++ check, false, false, .frame (packCmd row.2 false ++ data ++ check)⟩ }) ∧
    (frameWellFormed s.params (packCmd row.2 false ++ data ++ check) = false →
      exec row.1 s = .next (afterRefusal s))

/-- R198: against the reference device, `GET` after `SET` returns `DEC(kind, ENC(kind, v))` with no mismatch: the
value clamped, or the byte itself for a raw register. -/
def Obligations.SetThenGetReturnsTheClampedValue : Prop :=
  ∀ (s : State) (addr : Addr) (val data : Byte) (row : RegRow),
    s.params = Params.hardware → s.attached = .reference → Memory.wf s.dev.mem = true → deviceHas addr = true →
    findWritable s.regtab addr = some row → encodeKind s.params row.kind val = some data →
    ∃ t u : State, exec (.set addr val) s = .next t ∧ exec (.get addr) t = .next u ∧
      u.resp.flag = false ∧ u.resp.refused = false ∧
      u.resp.decoded = (decodeKind s.params s.flagMap row.kind data).decoded ∧
      (row.kind = .sm7 → u.resp.decoded = .value (max (-63) (min 63 val.toInt))) ∧
      (row.kind = .b5 → u.resp.decoded = .value (max 0 (min 31 val.toInt))) ∧
      (row.kind = .raw → u.resp.decoded = .byte val)

/-! ### The exception, the history and the whole machine -/

/-- R210, R213: one operation reports `ChecksumMismatch` at most once, and only a frame-checking one that is not
refused and finds a mismatch. -/
def Obligations.MismatchIsReportedOncePerCall : Prop :=
  ∀ (i : Instr) (s t : State), exec i s = .next t →
    diagCount t.hist = diagCount s.hist + (if checksFrame i && (!t.resp.refused && t.mismatch) then 1 else 0)

/-- R27, R24, R216: only a frame-checking operation writes `MISMATCH`, `RXDATA` or `RXCHK`. -/
def Obligations.OnlyFrameChecksWriteReceiveRegisters : Prop :=
  ∀ (i : Instr) (s t : State), exec i s = .next t → checksFrame i = false →
    t.mismatch = s.mismatch ∧ t.rxdata = s.rxdata ∧ t.rxchk = s.rxchk

/-- R70: a refused request changes nothing but the response. -/
def Obligations.RefusedRequestsChangeNothing : Prop :=
  ∀ (i : Instr) (s t : State), exec i s = .next t → t.resp.refused = true → t = afterRefusal s

/-- Along every step the history only grows (R20, R45), and the table, `REGTAB` and `FLAG_MAP` never change (R22, R28,
R20). That the parameters and what is attached are fields of the state that no step changes is the model's choice (log
entries 13 and 12). -/
def Obligations.HistoryOnlyGrowsAndConstantsStay : Prop :=
  ∀ s t : State, step s = .next t →
    s.hist <+: t.hist ∧ t.tbl = s.tbl ∧ t.regtab = s.regtab ∧ t.flagMap = s.flagMap ∧ t.params = s.params ∧
      t.attached = s.attached

/-- Every step keeps the invariant: the history is a sequence of whole transactions with true diagnostics, the
device's memory keeps its canonical form, and the rest of `Invariant`. -/
def Obligations.StepKeepsTheInvariant : Prop :=
  ∀ s t : State, Invariant s → step s = .next t → Invariant t

/-- The state after reset meets the invariant. -/
def Obligations.ResetMeetsTheInvariant : Prop :=
  Invariant State.reset

/-- R230, R21, R23, R24: what the reset event sets, what it leaves, and that the state after reset has those
values with the constants in place (the other fields' values are the model's: log entries 2, 3, 5, 12). -/
def Obligations.ResetSetsTheWorkingRegisters : Prop :=
  (∀ s : State, (resetEvent s).pec = 0x41 ∧ (resetEvent s).cmd = 0x00 ∧ (resetEvent s).dat = 0x00 ∧
    (resetEvent s).chk = 0x00 ∧ (resetEvent s).bitcnt = 0 ∧ (resetEvent s).rxdata = 0x00 ∧
    (resetEvent s).rxchk = 0x00 ∧ (resetEvent s).mismatch = false ∧ (resetEvent s).hist = [] ∧
    (resetEvent s).tbl = s.tbl ∧ (resetEvent s).regtab = s.regtab ∧ (resetEvent s).flagMap = s.flagMap ∧
    (resetEvent s).dev = s.dev) ∧
  resetEvent State.reset = State.reset ∧
  State.reset.pec = 0x41 ∧ State.reset.cmd = 0x00 ∧ State.reset.dat = 0x00 ∧ State.reset.chk = 0x00 ∧
  State.reset.bitcnt = 0 ∧ State.reset.rxdata = 0x00 ∧ State.reset.rxchk = 0x00 ∧ State.reset.mismatch = false ∧
  State.reset.hist = [] ∧ State.reset.tbl = Config.pecTable

/-- R10: the result of an operation, and all it leaves but the working registers, does not depend on what
earlier operations left in the working registers; `PEC.BIT` and `PEC.BYTE` alone read `PEC`. -/
def Obligations.ResultsForgetTheWorkingRegisters : Prop :=
  ∀ (i : Instr) (s t : State), readsPec i = false → blankWorking s = blankWorking t →
    ∃ s' t' : State, exec i s = .next s' ∧ exec i t = .next t' ∧ s'.resp = t'.resp ∧ blankWorking s' = blankWorking t'

/-- R47, R40: a byte of the device memory changes only at the address of a write transaction; every other
operation leaves every byte as it was. -/
def Obligations.DeviceMemoryChangesOnlyWhereWritten : Prop :=
  ∀ (i : Instr) (s t : State) (a : Nat), exec i s = .next t → Memory.wf s.dev.mem = true →
    (∀ w, storesTo i = some w → w.toNat ≠ a) → Memory.read t.dev.mem a = Memory.read s.dev.mem a

/-- R236: the stuck-bus answers on this hardware: all zeros are always flagged, all ones pass exactly for command
byte 0x11 (so `GET.IDAC_VLOW` returns -63 unflagged), and the echoes that pass. -/
def Obligations.StuckBusAnswers : Prop :=
  (∀ c : Byte, pecCheck Params.hardware c 0x00 = 0x00 ↔ c = 0x41) ∧
  [0x03#8, 0x05#8, 0x07#8, 0x09#8, 0x0B#8, 0x0D#8, 0x0F#8, 0x11#8, 0x13#8, 0x15#8, 0x17#8].map
      (fun c => pecCheck Params.hardware c 0x00) =
    [0x71#8, 0x0F#8, 0x25#8, 0xF3#8, 0xD9#8, 0xA7#8, 0x8D#8, 0x0C#8, 0x26#8, 0x58#8, 0x72#8] ∧
  (∀ c : Byte, pecCheck Params.hardware c 0xFF = 0xFF ↔ c = 0x11) ∧
  (∀ (c b : Byte), c ∈ [0x03#8, 0x05#8, 0x07#8, 0x09#8, 0x0B#8, 0x0D#8, 0x0F#8, 0x11#8, 0x13#8, 0x15#8, 0x17#8] →
    (pecCheck Params.hardware c b = b ↔
      (c, b) ∈ [(0x03#8, 0x69#8), (0x03#8, 0x94#8), (0x05#8, 0x7C#8), (0x05#8, 0x81#8), (0x09#8, 0x56#8), (0x09#8, 0xAB#8),
        (0x0F#8, 0x43#8), (0x0F#8, 0xBE#8), (0x11#8, 0x02#8), (0x11#8, 0xFF#8), (0x17#8, 0x17#8), (0x17#8, 0xEA#8)])) ∧
  (∀ (s : State) (x : Byte) (rest : List Byte), s.params = Params.hardware → s.regtab = Config.regtab →
    oracleAnswers s x 0xFF 0xFF rest →
    ∃ t : State, exec .getIdacVlow s = .next t ∧ t.resp.flag = false ∧ t.resp.decoded = .value (-63))

/-- R149, R160: a byte of kind FLAGS decodes to exactly the active flags of its register's row of `FLAG_MAP`, under
every map, for every flag register but MFR_CONFIG1 (whose selectors FlgConfig1DecodesSelectors adds), those other than
the six with an unpacker of their own among them (log entry 23). The packing of such a mask in `y` is R71's. -/
def Obligations.FlagKindsDecodeByTheirMapRow : Prop :=
  ∀ (P : Params) (fm : FlagMap) (r : FlagReg) (b : Byte), r ≠ .config1 →
    ∃ (mask : Byte) (fs : List Flag),
      decodeKind P fm (.flags r) b = ⟨mask.setWidth 13, .flags fs⟩ ∧
      (∀ k, k < 8 → (mask.getLsbD k = true ↔ (flagAt fm r k).isSome = true ∧ b.getLsbD k = true)) ∧
      (∀ f, f ∈ fs ↔ ∃ k, k < 8 ∧ flagAt fm r k = some f ∧ b.getLsbD k = true) ∧
      fs.Nodup
end

