-- ==== Sys2Proof/Laws/Decode.lean ====
section
/-! SUPPORT. The bits of the words the encoder writes, and the fields the decoder reads back from them. -/

namespace Sys2Proof

/-- The bits of a request: `c` in 7:0, `b` in 15:8, `a` in 23:16, `fn` in 28:24 (R70). -/
theorem getLsbD_mkReq (fn : BitVec 5) (a b c : Byte) (i : Nat) :
    (Decode.mkReq fn a b c).getLsbD i =
      if i < 8 then c.getLsbD i else if i < 16 then b.getLsbD (i - 8) else if i < 24 then a.getLsbD (i - 16) else fn.getLsbD (i - 24) := by
  have h : (Decode.mkReq fn a b c).getLsbD i =
      if i < 8 then c.getLsbD i else if i - 8 < 8 then b.getLsbD (i - 8) else if i - 8 - 8 < 8 then a.getLsbD (i - 8 - 8) else fn.getLsbD (i - 8 - 8 - 8) := by
    refine (BitVec.getLsbD_append (x := fn ++ a ++ b) (y := c) (i := i)).trans ?_
    rw [BitVec.getLsbD_append, BitVec.getLsbD_append]
  rw [h]
  have h2 : i - 8 - 8 = i - 16 := by omega
  have h3 : i - 16 - 8 = i - 24 := by omega
  by_cases h8 : i < 8
  · simp [h8]
  · have e1 : (i - 8 < 8) ↔ i < 16 := by omega
    have e2 : (i - 16 < 8) ↔ i < 24 := by omega
    simp only [h8, if_false, e1, h2, e2, h3]

/-- The bits of a frame: check in 7:0, data in 15:8, command in 23:16 (R61). -/
theorem getLsbD_mkFrame (cmd data check : Byte) (i : Nat) :
    (Decode.mkFrame cmd data check).getLsbD i =
      if i < 8 then check.getLsbD i else if i < 16 then data.getLsbD (i - 8) else cmd.getLsbD (i - 16) := by
  have h : (Decode.mkFrame cmd data check).getLsbD i =
      if i < 8 then check.getLsbD i else if i - 8 < 8 then data.getLsbD (i - 8) else cmd.getLsbD (i - 8 - 8) := by
    refine (BitVec.getLsbD_append (x := cmd ++ data) (y := check) (i := i)).trans ?_
    rw [BitVec.getLsbD_append]
  rw [h]
  have h2 : i - 8 - 8 = i - 16 := by omega
  by_cases h8 : i < 8
  · simp [h8]
  · have e1 : (i - 8 < 8) ↔ i < 16 := by omega
    simp only [h8, if_false, e1, h2]

@[simp] theorem fn_mkReq (fn : BitVec 5) (a b c : Byte) : Decode.fn (Decode.mkReq fn a b c) = fn := by
  refine BitVec.eq_of_getLsbD_eq fun i hi => ?_
  simp only [Decode.fn, BitVec.getLsbD_extractLsb', getLsbD_mkReq, hi, decide_true, Bool.true_and]
  rw [if_neg (by omega), if_neg (by omega), if_neg (by omega)]
  congr 1; omega

@[simp] theorem opA_mkReq (fn : BitVec 5) (a b c : Byte) : Decode.opA (Decode.mkReq fn a b c) = a := by
  refine BitVec.eq_of_getLsbD_eq fun i hi => ?_
  simp only [Decode.opA, BitVec.getLsbD_extractLsb', getLsbD_mkReq, hi, decide_true, Bool.true_and]
  rw [if_neg (by omega), if_neg (by omega), if_pos (by omega)]
  congr 1; omega

@[simp] theorem opB_mkReq (fn : BitVec 5) (a b c : Byte) : Decode.opB (Decode.mkReq fn a b c) = b := by
  refine BitVec.eq_of_getLsbD_eq fun i hi => ?_
  simp only [Decode.opB, BitVec.getLsbD_extractLsb', getLsbD_mkReq, hi, decide_true, Bool.true_and]
  rw [if_neg (by omega), if_pos (by omega)]
  congr 1; omega

@[simp] theorem opC_mkReq (fn : BitVec 5) (a b c : Byte) : Decode.opC (Decode.mkReq fn a b c) = c := by
  refine BitVec.eq_of_getLsbD_eq fun i hi => ?_
  simp only [Decode.opC, BitVec.getLsbD_extractLsb', getLsbD_mkReq, hi, decide_true, Bool.true_and]
  rw [if_pos (by omega)]
  congr 1; omega

@[simp] theorem addrA_mkReq (fn : BitVec 5) (a b c : Byte) :
    Decode.addrA (Decode.mkReq fn a b c) = a.extractLsb' 0 7 := by
  refine BitVec.eq_of_getLsbD_eq fun i hi => ?_
  simp only [Decode.addrA, BitVec.getLsbD_extractLsb', getLsbD_mkReq, hi, decide_true, Bool.true_and]
  rw [if_neg (by omega), if_neg (by omega), if_pos (by omega)]
  congr 1; omega

@[simp] theorem bitA_mkReq (fn : BitVec 5) (a b c : Byte) : Decode.bitA (Decode.mkReq fn a b c) = a.getLsbD 0 := by
  rw [Decode.bitA, getLsbD_mkReq]
  rfl

@[simp] theorem bitB_mkReq (fn : BitVec 5) (a b c : Byte) : Decode.bitB (Decode.mkReq fn a b c) = b.getLsbD 0 := by
  rw [Decode.bitB, getLsbD_mkReq]
  rfl

@[simp] theorem extract_addrByte (a : Addr) : (Decode.addrByte a).extractLsb' 0 7 = a := by
  refine BitVec.eq_of_getLsbD_eq fun i hi => ?_
  have : i < 8 := by omega
  simp [Decode.addrByte, hi, this]

@[simp] theorem getLsbD_bitByte (b : Bool) : (Decode.bitByte b).getLsbD 0 = b := by
  cases b <;> rfl

@[simp] theorem getElem_bitByte (b : Bool) : (Decode.bitByte b)[0] = b := by
  cases b <;> rfl

@[simp] theorem frameCmd_mkFrame (c d k : Byte) : Decode.frameCmd (Decode.mkFrame c d k) = c := by
  refine BitVec.eq_of_getLsbD_eq fun i hi => ?_
  simp only [Decode.frameCmd, BitVec.getLsbD_extractLsb', getLsbD_mkFrame, hi, decide_true, Bool.true_and]
  rw [if_neg (by omega), if_neg (by omega)]
  congr 1; omega

@[simp] theorem frameData_mkFrame (c d k : Byte) : Decode.frameData (Decode.mkFrame c d k) = d := by
  refine BitVec.eq_of_getLsbD_eq fun i hi => ?_
  simp only [Decode.frameData, BitVec.getLsbD_extractLsb', getLsbD_mkFrame, hi, decide_true, Bool.true_and]
  rw [if_neg (by omega), if_pos (by omega)]
  congr 1; omega

@[simp] theorem frameCheck_mkFrame (c d k : Byte) : Decode.frameCheck (Decode.mkFrame c d k) = k := by
  refine BitVec.eq_of_getLsbD_eq fun i hi => ?_
  simp only [Decode.frameCheck, BitVec.getLsbD_extractLsb', getLsbD_mkFrame, hi, decide_true, Bool.true_and]
  rw [if_pos (by omega)]
  congr 1; omega

end Sys2Proof
end

