-- ==== Sys2Proof/Laws/Memory.lean ====
section
/-! SUPPORT. The device memory: a read after a write, and every operation keeps the canonical form. -/

namespace Sys2Proof.Machine

theorem memory_read_cons (a b : Nat) (v : Byte) (m : Memory) (h : Memory.read m a = Memory.unlisted) :
    Memory.read (Memory.cons a v m) b = if a = b then v else Memory.read m b := by
  unfold Memory.cons
  split
  · rename_i hv
    by_cases hab : a = b
    · subst hab; simp [h, hv]
    · simp [hab]
  · simp [Memory.read]

theorem memory_read_below (m : Memory) (lo a : Nat) (h : Memory.wfFrom lo m = true) (ha : a < lo) :
    Memory.read m a = Memory.unlisted := by
  induction m generalizing lo with
  | nil => rfl
  | cons c rest ih =>
    obtain ⟨k, v⟩ := c
    simp only [Memory.wfFrom, Bool.and_eq_true, decide_eq_true_eq] at h
    have hk : k ≠ a := by omega
    simp only [Memory.read, if_neg hk]
    exact ih (k + 1) h.2.2 (by omega)

/-- A read after a write: the byte written at its address, every other address as before. -/
theorem memory_read_write (m : Memory) (lo a b : Nat) (v : Byte) (h : Memory.wfFrom lo m = true) :
    Memory.read (Memory.write m a v) b = if a = b then v else Memory.read m b := by
  induction m generalizing lo with
  | nil => exact memory_read_cons a b v [] rfl
  | cons c rest ih =>
    obtain ⟨k, w⟩ := c
    have h' := h
    simp only [Memory.wfFrom, Bool.and_eq_true, decide_eq_true_eq] at h'
    unfold Memory.write
    split
    · rename_i hk
      subst hk
      rw [memory_read_cons _ _ _ _ (memory_read_below rest (k + 1) k h'.2.2 (by omega))]
      by_cases hkb : k = b <;> simp [Memory.read, hkb]
    · split
      · rename_i hlt
        refine memory_read_cons a b v _ (memory_read_below _ k a ?_ hlt)
        simp [Memory.wfFrom, h'.2.1, h'.2.2]
      · by_cases hkb : k = b
        · subst hkb
          have : a ≠ k := by omega
          simp [Memory.read, this]
        · simp [Memory.read, hkb, ih (k + 1) h'.2.2]

theorem memory_wf_weaken (m : Memory) (lo lo' : Nat) (h : Memory.wfFrom lo m = true) (hle : lo' ≤ lo) :
    Memory.wfFrom lo' m = true := by
  cases m with
  | nil => rfl
  | cons c rest =>
    obtain ⟨k, v⟩ := c
    simp only [Memory.wfFrom, Bool.and_eq_true, decide_eq_true_eq] at h ⊢
    exact ⟨by omega, h.2⟩

theorem memory_wf_cons (a lo : Nat) (v : Byte) (m : Memory) (h : Memory.wfFrom (a + 1) m = true) (hlo : lo ≤ a) :
    Memory.wfFrom lo (Memory.cons a v m) = true := by
  unfold Memory.cons
  split
  · exact memory_wf_weaken m (a + 1) lo h (by omega)
  · rename_i hv
    simp [Memory.wfFrom, h, hlo, hv]

theorem memory_wfFrom_write (m : Memory) (lo a : Nat) (v : Byte) (h : Memory.wfFrom lo m = true) (hlo : lo ≤ a) :
    Memory.wfFrom lo (Memory.write m a v) = true := by
  induction m generalizing lo with
  | nil => exact memory_wf_cons a lo v [] rfl hlo
  | cons c rest ih =>
    obtain ⟨k, w⟩ := c
    have h' := h
    simp only [Memory.wfFrom, Bool.and_eq_true, decide_eq_true_eq] at h'
    unfold Memory.write
    split
    · rename_i hk
      exact memory_wf_cons a lo v rest (hk ▸ h'.2.2) hlo
    · split
      · refine memory_wf_cons a lo v _ ?_ hlo
        simp only [Memory.wfFrom, Bool.and_eq_true, decide_eq_true_eq]
        exact ⟨by omega, h'.2⟩
      · simp only [Memory.wfFrom, Bool.and_eq_true, decide_eq_true_eq]
        exact ⟨h'.1, h'.2.1, ih (k + 1) h'.2.2 (by omega)⟩

/-- A write keeps the canonical form; it is the only operation that changes a memory. -/
theorem memory_wf_write (m : Memory) (a : Nat) (v : Byte) (h : Memory.wf m = true) :
    Memory.wf (Memory.write m a v) = true :=
  memory_wfFrom_write m 0 a v h (Nat.zero_le a)

end Sys2Proof.Machine
end

