-- ==== Sys2Proof/Laws/State.lean ====
section
/-! SUPPORT. One lemma for each field of State and each update of it that the operations make. -/

namespace Sys2Proof.Machine

/-! ### `respond` -/

@[simp] theorem respond_pec (y : BitVec 24) (flag : Bool) (d : Decoded) (s : State) : (respond y flag d s).pec = s.pec := rfl
@[simp] theorem respond_tbl (y : BitVec 24) (flag : Bool) (d : Decoded) (s : State) : (respond y flag d s).tbl = s.tbl := rfl
@[simp] theorem respond_cmd (y : BitVec 24) (flag : Bool) (d : Decoded) (s : State) : (respond y flag d s).cmd = s.cmd := rfl
@[simp] theorem respond_dat (y : BitVec 24) (flag : Bool) (d : Decoded) (s : State) : (respond y flag d s).dat = s.dat := rfl
@[simp] theorem respond_chk (y : BitVec 24) (flag : Bool) (d : Decoded) (s : State) : (respond y flag d s).chk = s.chk := rfl
@[simp] theorem respond_bitcnt (y : BitVec 24) (flag : Bool) (d : Decoded) (s : State) : (respond y flag d s).bitcnt = s.bitcnt := rfl
@[simp] theorem respond_rxdata (y : BitVec 24) (flag : Bool) (d : Decoded) (s : State) : (respond y flag d s).rxdata = s.rxdata := rfl
@[simp] theorem respond_rxchk (y : BitVec 24) (flag : Bool) (d : Decoded) (s : State) : (respond y flag d s).rxchk = s.rxchk := rfl
@[simp] theorem respond_mismatch (y : BitVec 24) (flag : Bool) (d : Decoded) (s : State) : (respond y flag d s).mismatch = s.mismatch := rfl
@[simp] theorem respond_regtab (y : BitVec 24) (flag : Bool) (d : Decoded) (s : State) : (respond y flag d s).regtab = s.regtab := rfl
@[simp] theorem respond_flagMap (y : BitVec 24) (flag : Bool) (d : Decoded) (s : State) : (respond y flag d s).flagMap = s.flagMap := rfl
@[simp] theorem respond_hist (y : BitVec 24) (flag : Bool) (d : Decoded) (s : State) : (respond y flag d s).hist = s.hist := rfl
@[simp] theorem respond_params (y : BitVec 24) (flag : Bool) (d : Decoded) (s : State) : (respond y flag d s).params = s.params := rfl
@[simp] theorem respond_resp (y : BitVec 24) (flag : Bool) (d : Decoded) (s : State) : (respond y flag d s).resp = ⟨y, flag, false, d⟩ := rfl
@[simp] theorem respond_pending (y : BitVec 24) (flag : Bool) (d : Decoded) (s : State) : (respond y flag d s).pending = s.pending := rfl
@[simp] theorem respond_attached (y : BitVec 24) (flag : Bool) (d : Decoded) (s : State) : (respond y flag d s).attached = s.attached := rfl
@[simp] theorem respond_script (y : BitVec 24) (flag : Bool) (d : Decoded) (s : State) : (respond y flag d s).script = s.script := rfl
@[simp] theorem respond_drawn (y : BitVec 24) (flag : Bool) (d : Decoded) (s : State) : (respond y flag d s).drawn = s.drawn := rfl
@[simp] theorem respond_dev (y : BitVec 24) (flag : Bool) (d : Decoded) (s : State) : (respond y flag d s).dev = s.dev := rfl

/-! ### `refuse` -/

@[simp] theorem refuse_pec (s : State) : (refuse s).pec = s.pec := rfl
@[simp] theorem refuse_tbl (s : State) : (refuse s).tbl = s.tbl := rfl
@[simp] theorem refuse_cmd (s : State) : (refuse s).cmd = s.cmd := rfl
@[simp] theorem refuse_dat (s : State) : (refuse s).dat = s.dat := rfl
@[simp] theorem refuse_chk (s : State) : (refuse s).chk = s.chk := rfl
@[simp] theorem refuse_bitcnt (s : State) : (refuse s).bitcnt = s.bitcnt := rfl
@[simp] theorem refuse_rxdata (s : State) : (refuse s).rxdata = s.rxdata := rfl
@[simp] theorem refuse_rxchk (s : State) : (refuse s).rxchk = s.rxchk := rfl
@[simp] theorem refuse_mismatch (s : State) : (refuse s).mismatch = s.mismatch := rfl
@[simp] theorem refuse_regtab (s : State) : (refuse s).regtab = s.regtab := rfl
@[simp] theorem refuse_flagMap (s : State) : (refuse s).flagMap = s.flagMap := rfl
@[simp] theorem refuse_hist (s : State) : (refuse s).hist = s.hist := rfl
@[simp] theorem refuse_params (s : State) : (refuse s).params = s.params := rfl
@[simp] theorem refuse_resp (s : State) : (refuse s).resp = ⟨0, false, true, .nothing⟩ := rfl
@[simp] theorem refuse_pending (s : State) : (refuse s).pending = s.pending := rfl
@[simp] theorem refuse_attached (s : State) : (refuse s).attached = s.attached := rfl
@[simp] theorem refuse_script (s : State) : (refuse s).script = s.script := rfl
@[simp] theorem refuse_drawn (s : State) : (refuse s).drawn = s.drawn := rfl
@[simp] theorem refuse_dev (s : State) : (refuse s).dev = s.dev := rfl

/-! ### `emit` -/

@[simp] theorem emit_pec (e : Event) (s : State) : (emit e s).pec = s.pec := rfl
@[simp] theorem emit_tbl (e : Event) (s : State) : (emit e s).tbl = s.tbl := rfl
@[simp] theorem emit_cmd (e : Event) (s : State) : (emit e s).cmd = s.cmd := rfl
@[simp] theorem emit_dat (e : Event) (s : State) : (emit e s).dat = s.dat := rfl
@[simp] theorem emit_chk (e : Event) (s : State) : (emit e s).chk = s.chk := rfl
@[simp] theorem emit_bitcnt (e : Event) (s : State) : (emit e s).bitcnt = s.bitcnt := rfl
@[simp] theorem emit_rxdata (e : Event) (s : State) : (emit e s).rxdata = s.rxdata := rfl
@[simp] theorem emit_rxchk (e : Event) (s : State) : (emit e s).rxchk = s.rxchk := rfl
@[simp] theorem emit_mismatch (e : Event) (s : State) : (emit e s).mismatch = s.mismatch := rfl
@[simp] theorem emit_regtab (e : Event) (s : State) : (emit e s).regtab = s.regtab := rfl
@[simp] theorem emit_flagMap (e : Event) (s : State) : (emit e s).flagMap = s.flagMap := rfl
@[simp] theorem emit_hist (e : Event) (s : State) : (emit e s).hist = s.hist ++ [e] := rfl
@[simp] theorem emit_params (e : Event) (s : State) : (emit e s).params = s.params := rfl
@[simp] theorem emit_resp (e : Event) (s : State) : (emit e s).resp = s.resp := rfl
@[simp] theorem emit_pending (e : Event) (s : State) : (emit e s).pending = s.pending := rfl
@[simp] theorem emit_attached (e : Event) (s : State) : (emit e s).attached = s.attached := rfl
@[simp] theorem emit_script (e : Event) (s : State) : (emit e s).script = s.script := rfl
@[simp] theorem emit_drawn (e : Event) (s : State) : (emit e s).drawn = s.drawn := rfl
@[simp] theorem emit_dev (e : Event) (s : State) : (emit e s).dev = s.dev := rfl

/-! ### `setPec` -/

@[simp] theorem setPec_pec (p : Byte) (s : State) : (setPec p s).pec = p := rfl
@[simp] theorem setPec_tbl (p : Byte) (s : State) : (setPec p s).tbl = s.tbl := rfl
@[simp] theorem setPec_cmd (p : Byte) (s : State) : (setPec p s).cmd = s.cmd := rfl
@[simp] theorem setPec_dat (p : Byte) (s : State) : (setPec p s).dat = s.dat := rfl
@[simp] theorem setPec_chk (p : Byte) (s : State) : (setPec p s).chk = s.chk := rfl
@[simp] theorem setPec_bitcnt (p : Byte) (s : State) : (setPec p s).bitcnt = s.bitcnt := rfl
@[simp] theorem setPec_rxdata (p : Byte) (s : State) : (setPec p s).rxdata = s.rxdata := rfl
@[simp] theorem setPec_rxchk (p : Byte) (s : State) : (setPec p s).rxchk = s.rxchk := rfl
@[simp] theorem setPec_mismatch (p : Byte) (s : State) : (setPec p s).mismatch = s.mismatch := rfl
@[simp] theorem setPec_regtab (p : Byte) (s : State) : (setPec p s).regtab = s.regtab := rfl
@[simp] theorem setPec_flagMap (p : Byte) (s : State) : (setPec p s).flagMap = s.flagMap := rfl
@[simp] theorem setPec_hist (p : Byte) (s : State) : (setPec p s).hist = s.hist := rfl
@[simp] theorem setPec_params (p : Byte) (s : State) : (setPec p s).params = s.params := rfl
@[simp] theorem setPec_resp (p : Byte) (s : State) : (setPec p s).resp = s.resp := rfl
@[simp] theorem setPec_pending (p : Byte) (s : State) : (setPec p s).pending = s.pending := rfl
@[simp] theorem setPec_attached (p : Byte) (s : State) : (setPec p s).attached = s.attached := rfl
@[simp] theorem setPec_script (p : Byte) (s : State) : (setPec p s).script = s.script := rfl
@[simp] theorem setPec_drawn (p : Byte) (s : State) : (setPec p s).drawn = s.drawn := rfl
@[simp] theorem setPec_dev (p : Byte) (s : State) : (setPec p s).dev = s.dev := rfl

/-! ### `packRead` -/

@[simp] theorem packRead_pec (a : Addr) (s : State) : (packRead a s).pec = s.pec := rfl
@[simp] theorem packRead_tbl (a : Addr) (s : State) : (packRead a s).tbl = s.tbl := rfl
@[simp] theorem packRead_cmd (a : Addr) (s : State) : (packRead a s).cmd = packCmd a Config.readBit := rfl
@[simp] theorem packRead_dat (a : Addr) (s : State) : (packRead a s).dat = s.dat := rfl
@[simp] theorem packRead_chk (a : Addr) (s : State) : (packRead a s).chk = s.chk := rfl
@[simp] theorem packRead_bitcnt (a : Addr) (s : State) : (packRead a s).bitcnt = s.bitcnt := rfl
@[simp] theorem packRead_rxdata (a : Addr) (s : State) : (packRead a s).rxdata = s.rxdata := rfl
@[simp] theorem packRead_rxchk (a : Addr) (s : State) : (packRead a s).rxchk = s.rxchk := rfl
@[simp] theorem packRead_mismatch (a : Addr) (s : State) : (packRead a s).mismatch = s.mismatch := rfl
@[simp] theorem packRead_regtab (a : Addr) (s : State) : (packRead a s).regtab = s.regtab := rfl
@[simp] theorem packRead_flagMap (a : Addr) (s : State) : (packRead a s).flagMap = s.flagMap := rfl
@[simp] theorem packRead_hist (a : Addr) (s : State) : (packRead a s).hist = s.hist := rfl
@[simp] theorem packRead_params (a : Addr) (s : State) : (packRead a s).params = s.params := rfl
@[simp] theorem packRead_resp (a : Addr) (s : State) : (packRead a s).resp = s.resp := rfl
@[simp] theorem packRead_pending (a : Addr) (s : State) : (packRead a s).pending = s.pending := rfl
@[simp] theorem packRead_attached (a : Addr) (s : State) : (packRead a s).attached = s.attached := rfl
@[simp] theorem packRead_script (a : Addr) (s : State) : (packRead a s).script = s.script := rfl
@[simp] theorem packRead_drawn (a : Addr) (s : State) : (packRead a s).drawn = s.drawn := rfl
@[simp] theorem packRead_dev (a : Addr) (s : State) : (packRead a s).dev = s.dev := rfl

/-! ### `packWrite` -/

@[simp] theorem packWrite_pec (a : Addr) (b : Byte) (s : State) : (packWrite a b s).pec = pecCheck s.params (packCmd a Config.writeBit) b := rfl
@[simp] theorem packWrite_tbl (a : Addr) (b : Byte) (s : State) : (packWrite a b s).tbl = s.tbl := rfl
@[simp] theorem packWrite_cmd (a : Addr) (b : Byte) (s : State) : (packWrite a b s).cmd = packCmd a Config.writeBit := rfl
@[simp] theorem packWrite_dat (a : Addr) (b : Byte) (s : State) : (packWrite a b s).dat = b := rfl
@[simp] theorem packWrite_chk (a : Addr) (b : Byte) (s : State) : (packWrite a b s).chk = pecCheck s.params (packCmd a Config.writeBit) b := rfl
@[simp] theorem packWrite_bitcnt (a : Addr) (b : Byte) (s : State) : (packWrite a b s).bitcnt = s.bitcnt := rfl
@[simp] theorem packWrite_rxdata (a : Addr) (b : Byte) (s : State) : (packWrite a b s).rxdata = s.rxdata := rfl
@[simp] theorem packWrite_rxchk (a : Addr) (b : Byte) (s : State) : (packWrite a b s).rxchk = s.rxchk := rfl
@[simp] theorem packWrite_mismatch (a : Addr) (b : Byte) (s : State) : (packWrite a b s).mismatch = s.mismatch := rfl
@[simp] theorem packWrite_regtab (a : Addr) (b : Byte) (s : State) : (packWrite a b s).regtab = s.regtab := rfl
@[simp] theorem packWrite_flagMap (a : Addr) (b : Byte) (s : State) : (packWrite a b s).flagMap = s.flagMap := rfl
@[simp] theorem packWrite_hist (a : Addr) (b : Byte) (s : State) : (packWrite a b s).hist = s.hist := rfl
@[simp] theorem packWrite_params (a : Addr) (b : Byte) (s : State) : (packWrite a b s).params = s.params := rfl
@[simp] theorem packWrite_resp (a : Addr) (b : Byte) (s : State) : (packWrite a b s).resp = s.resp := rfl
@[simp] theorem packWrite_pending (a : Addr) (b : Byte) (s : State) : (packWrite a b s).pending = s.pending := rfl
@[simp] theorem packWrite_attached (a : Addr) (b : Byte) (s : State) : (packWrite a b s).attached = s.attached := rfl
@[simp] theorem packWrite_script (a : Addr) (b : Byte) (s : State) : (packWrite a b s).script = s.script := rfl
@[simp] theorem packWrite_drawn (a : Addr) (b : Byte) (s : State) : (packWrite a b s).drawn = s.drawn := rfl
@[simp] theorem packWrite_dev (a : Addr) (b : Byte) (s : State) : (packWrite a b s).dev = s.dev := rfl

/-! ### `select` -/

@[simp] theorem select_pec (s : State) : (select s).pec = s.pec := rfl
@[simp] theorem select_tbl (s : State) : (select s).tbl = s.tbl := rfl
@[simp] theorem select_cmd (s : State) : (select s).cmd = s.cmd := rfl
@[simp] theorem select_dat (s : State) : (select s).dat = s.dat := rfl
@[simp] theorem select_chk (s : State) : (select s).chk = s.chk := rfl
@[simp] theorem select_bitcnt (s : State) : (select s).bitcnt = 0 := rfl
@[simp] theorem select_rxdata (s : State) : (select s).rxdata = s.rxdata := rfl
@[simp] theorem select_rxchk (s : State) : (select s).rxchk = s.rxchk := rfl
@[simp] theorem select_mismatch (s : State) : (select s).mismatch = s.mismatch := rfl
@[simp] theorem select_regtab (s : State) : (select s).regtab = s.regtab := rfl
@[simp] theorem select_flagMap (s : State) : (select s).flagMap = s.flagMap := rfl
@[simp] theorem select_hist (s : State) : (select s).hist = s.hist ++ [.select] := rfl
@[simp] theorem select_params (s : State) : (select s).params = s.params := rfl
@[simp] theorem select_resp (s : State) : (select s).resp = s.resp := rfl
@[simp] theorem select_pending (s : State) : (select s).pending = s.pending := rfl
@[simp] theorem select_attached (s : State) : (select s).attached = s.attached := rfl
@[simp] theorem select_script (s : State) : (select s).script = s.script := rfl
@[simp] theorem select_drawn (s : State) : (select s).drawn = s.drawn := rfl
@[simp] theorem select_dev (s : State) : (select s).dev = deviceAfter (fun d => { d with seen := [] }) s := rfl

/-! ### `exchange` -/

@[simp] theorem exchange_pec (o i : Byte) (s : State) : (exchange o i s).pec = s.pec := rfl
@[simp] theorem exchange_tbl (o i : Byte) (s : State) : (exchange o i s).tbl = s.tbl := rfl
@[simp] theorem exchange_cmd (o i : Byte) (s : State) : (exchange o i s).cmd = s.cmd := rfl
@[simp] theorem exchange_dat (o i : Byte) (s : State) : (exchange o i s).dat = s.dat := rfl
@[simp] theorem exchange_chk (o i : Byte) (s : State) : (exchange o i s).chk = s.chk := rfl
@[simp] theorem exchange_bitcnt (o i : Byte) (s : State) : (exchange o i s).bitcnt = s.bitcnt + 8 := rfl
@[simp] theorem exchange_rxdata (o i : Byte) (s : State) : (exchange o i s).rxdata = s.rxdata := rfl
@[simp] theorem exchange_rxchk (o i : Byte) (s : State) : (exchange o i s).rxchk = s.rxchk := rfl
@[simp] theorem exchange_mismatch (o i : Byte) (s : State) : (exchange o i s).mismatch = s.mismatch := rfl
@[simp] theorem exchange_regtab (o i : Byte) (s : State) : (exchange o i s).regtab = s.regtab := rfl
@[simp] theorem exchange_flagMap (o i : Byte) (s : State) : (exchange o i s).flagMap = s.flagMap := rfl
@[simp] theorem exchange_hist (o i : Byte) (s : State) : (exchange o i s).hist = s.hist ++ [.xfer o i] := rfl
@[simp] theorem exchange_params (o i : Byte) (s : State) : (exchange o i s).params = s.params := rfl
@[simp] theorem exchange_resp (o i : Byte) (s : State) : (exchange o i s).resp = s.resp := rfl
@[simp] theorem exchange_pending (o i : Byte) (s : State) : (exchange o i s).pending = s.pending := rfl
@[simp] theorem exchange_attached (o i : Byte) (s : State) : (exchange o i s).attached = s.attached := rfl
@[simp] theorem exchange_script (o i : Byte) (s : State) : (exchange o i s).script = s.script := rfl
@[simp] theorem exchange_drawn (o i : Byte) (s : State) : (exchange o i s).drawn = s.drawn := rfl
@[simp] theorem exchange_dev (o i : Byte) (s : State) : (exchange o i s).dev = deviceAfter (fun d => { d with seen := d.seen ++ [o] }) s := rfl

/-! ### `deselect` -/

@[simp] theorem deselect_pec (s : State) : (deselect s).pec = s.pec := rfl
@[simp] theorem deselect_tbl (s : State) : (deselect s).tbl = s.tbl := rfl
@[simp] theorem deselect_cmd (s : State) : (deselect s).cmd = s.cmd := rfl
@[simp] theorem deselect_dat (s : State) : (deselect s).dat = s.dat := rfl
@[simp] theorem deselect_chk (s : State) : (deselect s).chk = s.chk := rfl
@[simp] theorem deselect_bitcnt (s : State) : (deselect s).bitcnt = s.bitcnt := rfl
@[simp] theorem deselect_rxdata (s : State) : (deselect s).rxdata = s.rxdata := rfl
@[simp] theorem deselect_rxchk (s : State) : (deselect s).rxchk = s.rxchk := rfl
@[simp] theorem deselect_mismatch (s : State) : (deselect s).mismatch = s.mismatch := rfl
@[simp] theorem deselect_regtab (s : State) : (deselect s).regtab = s.regtab := rfl
@[simp] theorem deselect_flagMap (s : State) : (deselect s).flagMap = s.flagMap := rfl
@[simp] theorem deselect_hist (s : State) : (deselect s).hist = s.hist ++ [.deselect] := rfl
@[simp] theorem deselect_params (s : State) : (deselect s).params = s.params := rfl
@[simp] theorem deselect_resp (s : State) : (deselect s).resp = s.resp := rfl
@[simp] theorem deselect_pending (s : State) : (deselect s).pending = s.pending := rfl
@[simp] theorem deselect_attached (s : State) : (deselect s).attached = s.attached := rfl
@[simp] theorem deselect_script (s : State) : (deselect s).script = s.script := rfl
@[simp] theorem deselect_drawn (s : State) : (deselect s).drawn = s.drawn := rfl
@[simp] theorem deselect_dev (s : State) : (deselect s).dev = deviceAfter (fun d => ⟨deviceCommit s.params s.regtab d, []⟩) s := rfl

/-! ### `advanceOracle` and `xfer` -/

@[simp] theorem advanceOracle_pec (s : State) : (advanceOracle s).pec = s.pec := by unfold advanceOracle; split <;> rfl
@[simp] theorem advanceOracle_tbl (s : State) : (advanceOracle s).tbl = s.tbl := by unfold advanceOracle; split <;> rfl
@[simp] theorem advanceOracle_cmd (s : State) : (advanceOracle s).cmd = s.cmd := by unfold advanceOracle; split <;> rfl
@[simp] theorem advanceOracle_dat (s : State) : (advanceOracle s).dat = s.dat := by unfold advanceOracle; split <;> rfl
@[simp] theorem advanceOracle_chk (s : State) : (advanceOracle s).chk = s.chk := by unfold advanceOracle; split <;> rfl
@[simp] theorem advanceOracle_bitcnt (s : State) : (advanceOracle s).bitcnt = s.bitcnt := by unfold advanceOracle; split <;> rfl
@[simp] theorem advanceOracle_rxdata (s : State) : (advanceOracle s).rxdata = s.rxdata := by unfold advanceOracle; split <;> rfl
@[simp] theorem advanceOracle_rxchk (s : State) : (advanceOracle s).rxchk = s.rxchk := by unfold advanceOracle; split <;> rfl
@[simp] theorem advanceOracle_mismatch (s : State) : (advanceOracle s).mismatch = s.mismatch := by unfold advanceOracle; split <;> rfl
@[simp] theorem advanceOracle_regtab (s : State) : (advanceOracle s).regtab = s.regtab := by unfold advanceOracle; split <;> rfl
@[simp] theorem advanceOracle_flagMap (s : State) : (advanceOracle s).flagMap = s.flagMap := by unfold advanceOracle; split <;> rfl
@[simp] theorem advanceOracle_hist (s : State) : (advanceOracle s).hist = s.hist := by unfold advanceOracle; split <;> rfl
@[simp] theorem advanceOracle_params (s : State) : (advanceOracle s).params = s.params := by unfold advanceOracle; split <;> rfl
@[simp] theorem advanceOracle_resp (s : State) : (advanceOracle s).resp = s.resp := by unfold advanceOracle; split <;> rfl
@[simp] theorem advanceOracle_pending (s : State) : (advanceOracle s).pending = s.pending := by unfold advanceOracle; split <;> rfl
@[simp] theorem advanceOracle_attached (s : State) : (advanceOracle s).attached = s.attached := by unfold advanceOracle; split <;> rfl
@[simp] theorem advanceOracle_dev (s : State) : (advanceOracle s).dev = s.dev := by unfold advanceOracle; split <;> rfl

theorem advanceOracle_oracle (s : State) (h : s.attached = .oracle) :
    advanceOracle s = { s with script := s.script.tail, drawn := s.drawn + 1 } := by
  simp [advanceOracle, h]

theorem advanceOracle_reference (s : State) (h : s.attached = .reference) : advanceOracle s = s := by
  simp [advanceOracle, h]

@[simp] theorem xfer_pec (o : Byte) (s : State) : (xfer o s).pec = s.pec := by simp [xfer]
@[simp] theorem xfer_tbl (o : Byte) (s : State) : (xfer o s).tbl = s.tbl := by simp [xfer]
@[simp] theorem xfer_cmd (o : Byte) (s : State) : (xfer o s).cmd = s.cmd := by simp [xfer]
@[simp] theorem xfer_dat (o : Byte) (s : State) : (xfer o s).dat = s.dat := by simp [xfer]
@[simp] theorem xfer_chk (o : Byte) (s : State) : (xfer o s).chk = s.chk := by simp [xfer]
@[simp] theorem xfer_bitcnt (o : Byte) (s : State) : (xfer o s).bitcnt = s.bitcnt + 8 := by simp [xfer]
@[simp] theorem xfer_rxdata (o : Byte) (s : State) : (xfer o s).rxdata = s.rxdata := by simp [xfer]
@[simp] theorem xfer_rxchk (o : Byte) (s : State) : (xfer o s).rxchk = s.rxchk := by simp [xfer]
@[simp] theorem xfer_mismatch (o : Byte) (s : State) : (xfer o s).mismatch = s.mismatch := by simp [xfer]
@[simp] theorem xfer_regtab (o : Byte) (s : State) : (xfer o s).regtab = s.regtab := by simp [xfer]
@[simp] theorem xfer_flagMap (o : Byte) (s : State) : (xfer o s).flagMap = s.flagMap := by simp [xfer]
@[simp] theorem xfer_hist (o : Byte) (s : State) : (xfer o s).hist = s.hist ++ [.xfer o (busIn s)] := by simp [xfer]
@[simp] theorem xfer_params (o : Byte) (s : State) : (xfer o s).params = s.params := by simp [xfer]
@[simp] theorem xfer_resp (o : Byte) (s : State) : (xfer o s).resp = s.resp := by simp [xfer]
@[simp] theorem xfer_pending (o : Byte) (s : State) : (xfer o s).pending = s.pending := by simp [xfer]
@[simp] theorem xfer_attached (o : Byte) (s : State) : (xfer o s).attached = s.attached := by simp [xfer]
@[simp] theorem xfer_script (o : Byte) (s : State) : (xfer o s).script = (advanceOracle s).script := by simp [xfer]
@[simp] theorem xfer_drawn (o : Byte) (s : State) : (xfer o s).drawn = (advanceOracle s).drawn := by simp [xfer]
@[simp] theorem xfer_dev (o : Byte) (s : State) : (xfer o s).dev = deviceAfter (fun d => { d with seen := d.seen ++ [o] }) s := by
  simp [xfer, deviceAfter]

end Sys2Proof.Machine
end

