-- ==== Sys2Proof/Laws/Ops.lean ====
section
/-! SUPPORT. What each shared operation can do, said once. The provers cite these instead of unfolding the
operation. -/

namespace Sys2Proof.Machine

/-- Two states with the same fields are the same state. -/
theorem state_ext {s t : State} (pec : s.pec = t.pec) (tbl : s.tbl = t.tbl) (cmd : s.cmd = t.cmd) (dat : s.dat = t.dat)
    (chk : s.chk = t.chk) (bitcnt : s.bitcnt = t.bitcnt) (rxdata : s.rxdata = t.rxdata) (rxchk : s.rxchk = t.rxchk)
    (mismatch : s.mismatch = t.mismatch) (regtab : s.regtab = t.regtab) (flagMap : s.flagMap = t.flagMap)
    (hist : s.hist = t.hist) (params : s.params = t.params) (resp : s.resp = t.resp) (pending : s.pending = t.pending)
    (attached : s.attached = t.attached) (script : s.script = t.script) (drawn : s.drawn = t.drawn)
    (dev : s.dev = t.dev) : s = t := by
  cases s; cases t; simp_all

/-- Unpacking what was packed gives the address back (R121). -/
@[simp] theorem cmdAddr_packCmd (a : Addr) (d : Bool) : cmdAddr (packCmd a d) = a := by
  refine BitVec.eq_of_getLsbD_eq fun i hi => ?_
  have h : i + 1 < 8 := by omega
  simp [cmdAddr, packCmd, hi, h, Nat.add_comm 1 i]

/-- Unpacking what was packed gives the direction back (R121). -/
@[simp] theorem cmdDir_packCmd (a : Addr) (d : Bool) : cmdDir (packCmd a d) = d := by
  simp [cmdDir, packCmd]

theorem refuse_eq (s : State) : refuse s = afterRefusal s := rfl

theorem calcPec_eq (c d : Byte) (s : State) : calcPec c d s = { s with pec := pecCheck s.params c d } := rfl

/-- `FRAME.WR` on the working registers is what R122 says. -/
theorem packWrite_eq (a : Addr) (d : Byte) (s : State) : packWrite a d s = afterPack s a d := rfl

/-- `FRAME.CHK` on the working registers is what R124 says: the report and the flag go together. -/
theorem checkReceived_eq (a : Addr) (d k : Byte) (s : State) : checkReceived a d k s = afterCheck s a d k := by
  unfold checkReceived
  by_cases h : readCheck s a d = k
  · have hc : ¬ checkMismatch (readCheck s a d) k = true := by simp [checkMismatch, h]
    refine (if_neg hc).trans ?_
    exact state_ext rfl rfl rfl rfl rfl rfl rfl rfl (by simp [afterCheck, h]) rfl rfl
      (by simp [calcPec_eq, afterCheck, readReport, h]) rfl rfl rfl rfl rfl rfl rfl
  · have hc : checkMismatch (readCheck s a d) k = true := by simp [checkMismatch, h]
    refine (if_pos hc).trans ?_
    exact state_ext rfl rfl rfl rfl rfl rfl rfl rfl (by simp [raiseChecksumMismatch, afterCheck, h]) rfl rfl
      (by simp only [raiseChecksumMismatch, emit_hist, afterCheck, readReport, if_neg h]; rfl) rfl rfl rfl rfl rfl rfl rfl

/-- The device's fields and the oracle's after an exchange, everything else as R45 says. -/
theorem xfer_eq (o : Byte) (s : State) :
    xfer o s = { s with
      bitcnt := s.bitcnt + 8, hist := s.hist ++ [.xfer o (busIn s)], script := (advanceOracle s).script,
      drawn := (advanceOracle s).drawn, dev := deviceAfter (fun d => { d with seen := d.seen ++ [o] }) s } := by
  apply state_ext <;> simp

/-- The three bytes a write transaction receives and discards. -/
def writeAnswers (a : Addr) (d : Byte) (s : State) : Byte × Byte × Byte :=
  let s1 := select (packWrite a d s)
  let s2 := xfer (packCmd a Config.writeBit) s1
  (busIn s1, busIn s2, busIn (xfer d s2))

/-- A write transaction is what R125 says, but for the oracle and the device. -/
theorem sendWrite_eq (a : Addr) (d : Byte) (s : State) :
    sendWrite a d s =
      { afterWrite s a d (writeAnswers a d s).1 (writeAnswers a d s).2.1 (writeAnswers a d s).2.2 with
        script := (sendWrite a d s).script, drawn := (sendWrite a d s).drawn, dev := (sendWrite a d s).dev } := by
  apply state_ext <;>
    simp [sendWrite, afterWrite, writeAnswers, writeEvents, writeCheck]

/-- The three bytes a read transaction receives: the first is discarded. -/
def readAnswers (a : Addr) (s : State) : Byte × Byte × Byte :=
  let s2 := openRead a s
  (busIn (select (packRead a s)), busIn s2, busIn (xfer s.params.rdFill s2))

/-- A read transaction is what R126 says, but for the oracle and the device. -/
theorem receiveRead_eq (a : Addr) (s : State) :
    receiveRead a s =
      { afterRead s a (readAnswers a s).1 (readAnswers a s).2.1 (readAnswers a s).2.2 with
        script := (receiveRead a s).script, drawn := (receiveRead a s).drawn, dev := (receiveRead a s).dev } := by
  simp only [receiveRead, checkReceived_eq]
  apply state_ext <;>
    simp [afterRead, afterCheck, readAnswers, readEvents, readReport, readCheck, openRead] <;> rfl

/-- The read transaction of a frame of the wire is what R126 says with the frame's two bytes. -/
theorem receiveFrame_eq (a : Addr) (d k : Byte) (s : State) :
    receiveFrame a d k s =
      { afterRead s a (busIn (select (packRead a s))) d k with
        script := (receiveFrame a d k s).script, drawn := (receiveFrame a d k s).drawn,
        dev := (receiveFrame a d k s).dev } := by
  simp only [receiveFrame, checkReceived_eq]
  apply state_ext <;>
    simp [afterRead, afterCheck, readEvents, readReport, readCheck, openRead] <;> rfl

/-! ### With the oracle attached -/

/-- The oracle's next answer is the head of its script (R46). -/
theorem busIn_oracle (s : State) (h : s.attached = .oracle) (x : Byte) (rest : List Byte) (hs : s.script = x :: rest) :
    busIn s = x := by
  simp [busIn, h, hs]

/-- A write transaction with the oracle answering `x`, `y`, `z`. -/
theorem sendWrite_oracle (a : Addr) (d x y z : Byte) (rest : List Byte) (s : State) (h : oracleAnswers s x y z rest) :
    sendWrite a d s = tookThree (afterWrite s a d x y z) rest := by
  obtain ⟨ha, hs⟩ := h
  apply state_ext <;>
    simp [sendWrite, xfer, busIn, advanceOracle, deviceAfter, ha, hs, tookThree, afterWrite, writeEvents, writeCheck]

/-- A read transaction with the oracle answering `x`, `d`, `k`. -/
theorem receiveRead_oracle (a : Addr) (x d k : Byte) (rest : List Byte) (s : State) (h : oracleAnswers s x d k rest) :
    receiveRead a s = tookThree (afterRead s a x d k) rest := by
  obtain ⟨ha, hs⟩ := h
  simp only [receiveRead, checkReceived_eq]
  apply state_ext <;>
    simp [openRead, xfer, busIn, advanceOracle, deviceAfter, ha, hs, tookThree, afterRead, afterCheck, readEvents,
      readReport, readCheck] <;> rfl

end Sys2Proof.Machine
end

