-- ==== Sys2Proof/Laws/Device.lean ====
section
/-! SUPPORT. What the transactions do to the reference device (R47), and that nothing else touches it. -/

namespace Sys2Proof.Machine

/-- With the oracle attached no transaction touches the device. -/
theorem sendWrite_dev_oracle (a : Addr) (d : Byte) (s : State) (h : s.attached = .oracle) :
    (sendWrite a d s).dev = s.dev := by
  simp [sendWrite, deviceAfter, h]

theorem receiveRead_dev_oracle (a : Addr) (s : State) (h : s.attached = .oracle) :
    (receiveRead a s).dev = s.dev := by
  simp [receiveRead, checkReceived_eq, afterCheck, openRead, deviceAfter, h]

theorem receiveFrame_dev_oracle (a : Addr) (d k : Byte) (s : State) (h : s.attached = .oracle) :
    (receiveFrame a d k s).dev = s.dev := by
  simp [receiveFrame, checkReceived_eq, afterCheck, openRead, deviceAfter, h]

/-- The reference device stores the data byte of a write to one of its read-write addresses (R47). -/
theorem sendWrite_dev (a : Addr) (d : Byte) (s : State) (h : s.attached = .reference) :
    (sendWrite a d s).dev =
      ⟨if (deviceHas a && (findWritable s.regtab a).isSome) = true then Memory.write s.dev.mem a.toNat d else s.dev.mem,
        []⟩ := by
  simp [sendWrite, deviceAfter, h, deviceCommit, Config.writeBit]

/-- A read leaves the reference device as it was, with no frame under way. -/
theorem receiveRead_dev (a : Addr) (s : State) (h : s.attached = .reference) :
    (receiveRead a s).dev = ⟨s.dev.mem, []⟩ := by
  simp [receiveRead, checkReceived_eq, afterCheck, openRead, deviceAfter, h, deviceCommit, Config.readBit]

theorem receiveFrame_dev (a : Addr) (d k : Byte) (s : State) (h : s.attached = .reference) :
    (receiveFrame a d k s).dev = ⟨s.dev.mem, []⟩ := by
  simp [receiveFrame, checkReceived_eq, afterCheck, openRead, deviceAfter, h, deviceCommit, Config.readBit]

/-- What the reference device answers to a read of one of its addresses (R47). -/
theorem receiveRead_reference (a : Addr) (s : State) (h : s.attached = .reference) (hd : deviceHas a = true) :
    receiveRead a s =
      { afterRead s a 0x00#8 (Memory.read s.dev.mem a.toNat) (readCheck s a (Memory.read s.dev.mem a.toNat)) with
        dev := ⟨s.dev.mem, []⟩ } := by
  simp only [receiveRead, checkReceived_eq]
  apply state_ext <;>
    simp [openRead, readReport, xfer, busIn, advanceOracle, deviceAfter, h, deviceAnswer, deviceCommit, hd, afterRead,
      afterCheck, readEvents, readCheck, Config.readBit]

/-- What a write transaction leaves with the reference device attached (R47): its answers are zeros. -/
theorem sendWrite_reference (a : Addr) (d : Byte) (s : State) (h : s.attached = .reference) :
    sendWrite a d s =
      { afterWrite s a d 0x00#8 0x00#8 0x00#8 with
        dev := ⟨if (deviceHas a && (findWritable s.regtab a).isSome) = true then Memory.write s.dev.mem a.toNat d
          else s.dev.mem, []⟩ } := by
  apply state_ext <;>
    simp [sendWrite, xfer, busIn, advanceOracle, deviceAfter, h, deviceAnswer, deviceCommit, afterWrite, writeEvents,
      writeCheck, Config.writeBit]

end Sys2Proof.Machine
end

