-- ==== Sys2Proof/Laws/Exec.lean ====
section
/-! SUPPORT. What executing any instruction can do, said once: one of five shapes. -/

namespace Sys2Proof.Machine

/-- Refused, or a pure operation (its result, and perhaps `PEC`, `CMD`, `DAT`, `CHK`), or `FRAME.CHK`, or a write
transaction, or a read transaction (of the block's own, or one whose answer a wire frame gives). -/
inductive ExecShape (i : Instr) (s : State) : State → Prop where
  | refused : ExecShape i s (afterRefusal s)
  | pure (pec cmd dat chk : Byte) (y : BitVec 24) (decoded : Decoded) (noCheck : checksFrame i = false)
      (noStore : storesTo i = none) :
      ExecShape i s { s with pec := pec, cmd := cmd, dat := dat, chk := chk, resp := ⟨y, false, false, decoded⟩ }
  | check (addr : Addr) (data check : Byte) (y : BitVec 24) (decoded : Decoded) (isCheck : checksFrame i = true)
      (noStore : storesTo i = none) :
      ExecShape i s
        { afterCheck s addr data check with resp := ⟨y, readCheck s addr data != check, false, decoded⟩ }
  | write (addr : Addr) (data : Byte) (y : BitVec 24) (decoded : Decoded) (noCheck : checksFrame i = false)
      (stores : storesTo i = some addr) (writable : (findWritable s.regtab addr).isSome = true) :
      ExecShape i s { sendWrite addr data s with resp := ⟨y, false, false, decoded⟩ }
  | read (addr : Addr) (y : BitVec 24) (decoded : Decoded) (isCheck : checksFrame i = true)
      (noStore : storesTo i = none) (known : (findReg s.regtab addr).isSome = true) :
      ExecShape i s { receiveRead addr s with resp := ⟨y, (receiveRead addr s).mismatch, false, decoded⟩ }
  | frame (addr : Addr) (data check : Byte) (y : BitVec 24) (decoded : Decoded) (isCheck : checksFrame i = true)
      (noStore : storesTo i = none) (known : (findReg s.regtab addr).isSome = true) :
      ExecShape i s
        { receiveFrame addr data check s with
          resp := ⟨y, (receiveFrame addr data check s).mismatch, false, decoded⟩ }

theorem readReg_shape (i : Instr) (s : State) (a : Addr) (hc : checksFrame i = true) (hs : storesTo i = none) :
    ExecShape i s (readReg a s) := by
  unfold readReg
  split
  · exact .refused
  · rename_i row h
    have hk : (findReg s.regtab a).isSome = true := by rw [h]; rfl
    unfold respondRead
    split
    · rename_i hm
      have e : (receiveRead a s).mismatch = true := by simp only [Bool.and_eq_true] at hm; exact hm.2
      have := ExecShape.read a (yPair (receiveRead a s).rxchk 0x00#8) .nothing hc hs hk
      rw [e] at this
      exact this
    · exact .read a _ _ hc hs hk

theorem getReg_shape (i : Instr) (s : State) (a : Addr) (hc : checksFrame i = true) (hs : storesTo i = none) :
    ExecShape i s (getReg a s) := by
  unfold getReg
  split
  · exact .refused
  · rename_i row h
    have hk : (findReg s.regtab a).isSome = true := by rw [h]; rfl
    unfold respondTyped
    simp only
    split
    · rename_i hm
      have e : (receiveRead a s).mismatch = true := by simp only [Bool.and_eq_true] at hm; exact hm.2
      have := ExecShape.read a 0 .nothing hc hs hk
      rw [e] at this
      exact this
    · exact .read a _ _ hc hs hk

theorem readFrame_shape (i : Instr) (s : State) (a : Addr) (d k : Byte) (hc : checksFrame i = true)
    (hs : storesTo i = none) : ExecShape i s (readFrame a d k s) := by
  unfold readFrame
  split
  · exact .refused
  · rename_i row h
    have hk : (findReg s.regtab a).isSome = true := by rw [h]; rfl
    unfold respondRead
    split
    · rename_i hm
      have e : (receiveFrame a d k s).mismatch = true := by simp only [Bool.and_eq_true] at hm; exact hm.2
      have := ExecShape.frame a d k (yPair (receiveFrame a d k s).rxchk 0x00#8) .nothing hc hs hk
      rw [e] at this
      exact this
    · exact .frame a d k _ _ hc hs hk

theorem writeReg_shape (i : Instr) (s : State) (a : Addr) (d : Byte) (hc : checksFrame i = false)
    (hs : storesTo i = some a) : ExecShape i s (writeReg a d s) := by
  unfold writeReg
  split
  · exact .refused
  · rename_i row h
    exact .write a d _ _ hc hs (by rw [h]; rfl)

theorem setReg_shape (i : Instr) (s : State) (a : Addr) (v : Byte) (hc : checksFrame i = false)
    (hs : storesTo i = some a) : ExecShape i s (setReg a v s) := by
  unfold setReg
  split
  · exact .refused
  · rename_i row h
    split
    · exact .refused
    · exact .write a _ _ _ hc hs (by rw [h]; rfl)

theorem writeFrame_shape (i : Instr) (s : State) (a : Addr) (d k : Byte) (hc : checksFrame i = false)
    (hs : storesTo i = some a) : ExecShape i s (writeFrame a d k s) := by
  unfold writeFrame
  split
  · exact .refused
  · rename_i row h
    split
    · exact .write a _ _ _ hc hs (by rw [h]; rfl)
    · exact .refused

theorem pure_shape (i : Instr) (s t : State) (pec cmd dat chk : Byte) (y : BitVec 24) (decoded : Decoded)
    (hc : checksFrame i = false) (hs : storesTo i = none) (hr : t.resp = ⟨y, false, false, decoded⟩)
    (ht : { s with pec := pec, cmd := cmd, dat := dat, chk := chk, resp := ⟨y, false, false, decoded⟩ } = t) :
    ExecShape i s t := by
  subst ht
  exact .pure pec cmd dat chk y decoded hc hs

/-- Every instruction answers a next state, of one of the shapes. -/
theorem exec_shape (i : Instr) (s : State) : ∃ t, exec i s = .next t ∧ ExecShape i s t := by
  cases i
  case read => exact ⟨_, rfl, readReg_shape _ _ _ rfl rfl⟩
  case write => exact ⟨_, rfl, writeReg_shape _ _ _ _ rfl rfl⟩
  case frameChk a d k =>
    exact ⟨_, rfl, by simp only [checkReceived_eq]; exact .check a d k _ _ rfl rfl⟩
  case get | getMfrFault | getMfrOcFault | getMfrNocFault | getMfrStatus | getMfrConfig1 | getMfrConfig2
    | getMfrChipCtrl | getIdacVlow | getIdacVhigh | getIdacSetcur | getMfrSsfm => exact ⟨_, rfl, getReg_shape _ _ _ rfl rfl⟩
  case set | setMfrChipCtrl | setIdacVlow | setIdacVhigh | setIdacSetcur | setMfrSsfm => exact ⟨_, rfl, setReg_shape _ _ _ _ rfl rfl⟩
  case rd24MfrFault | rd24MfrOcFault | rd24MfrNocFault | rd24MfrStatus | rd24MfrConfig1 | rd24MfrConfig2
    | rd24MfrChipCtrl | rd24IdacVlow | rd24IdacVhigh | rd24IdacSetcur | rd24MfrSsfm => exact ⟨_, rfl, readFrame_shape _ _ _ _ _ rfl rfl⟩
  case wr24MfrChipCtrl | wr24IdacVlow | wr24IdacVhigh | wr24IdacSetcur | wr24MfrSsfm => exact ⟨_, rfl, writeFrame_shape _ _ _ _ _ rfl rfl⟩
  all_goals exact ⟨_, rfl, pure_shape _ _ _ _ _ _ _ _ _ rfl rfl rfl rfl⟩

/-- A next state of `exec` has one of the shapes. -/
theorem shape_of_exec {i : Instr} {s t : State} (h : exec i s = .next t) : ExecShape i s t := by
  obtain ⟨u, hu, hs⟩ := exec_shape i s
  rw [h] at hu
  cases hu
  exact hs

end Sys2Proof.Machine
end

