-- ==== Sys2Proof/Laws/Flags.lean ====
section
/-! SUPPORT. What the flag unpackers compute: the bits of the mask and the members of the flag set
(R160), and what the selectors answer (R167). -/

namespace Sys2Proof.Machine

/-- A bit of a mask built up bit by bit. -/
theorem foldl_mask_bit (f : Nat → Bool) (l : List Nat) (m : Byte) (k : Nat) (hk : k < 8) :
    (l.foldl (fun m i => if f i then m ||| BitVec.twoPow 8 i else m) m).getLsbD k =
      (m.getLsbD k || (l.contains k && f k)) := by
  induction l generalizing m with
  | nil => simp
  | cons i rest ih =>
    rw [List.foldl_cons, ih]
    by_cases hik : i = k
    · subst hik
      cases hf : f i <;> simp [hk]
    · have hki : ¬ k = i := fun h => hik h.symm
      cases hf : f i <;> simp [hik, hki]

/-- Bit `k` of the mask says whether bit `k` reports a flag (R160). -/
theorem flagMask_bit (fm : FlagMap) (r : FlagReg) (b : Byte) (k : Nat) (hk : k < 8) :
    (flagMask fm r b).getLsbD k = flagActive fm r b k := by
  rw [flagMask, foldl_mask_bit _ _ _ _ hk]
  simp [hk]

theorem mem_foldr_insert (l : List Flag) (f : Flag) : f ∈ l.foldr List.insert [] ↔ f ∈ l := by
  induction l with
  | nil => simp
  | cons g rest ih => simp [ih]

theorem nodup_foldr_insert (l : List Flag) : (l.foldr List.insert []).Nodup := by
  induction l with
  | nil => simp
  | cons g rest ih => simpa using ih.insert

/-- A flag is in the set exactly when some bit reports it (R160). -/
theorem mem_activeFlags (fm : FlagMap) (r : FlagReg) (b : Byte) (f : Flag) :
    f ∈ activeFlags fm r b ↔ ∃ k, k < 8 ∧ flagActive fm r b k = true ∧ flagAt fm r k = some f := by
  simp [activeFlags, mem_foldr_insert]

theorem activeFlags_nodup (fm : FlagMap) (r : FlagReg) (b : Byte) : (activeFlags fm r b).Nodup :=
  nodup_foldr_insert _

theorem selectIlim_of_some {fm : FlagMap} {code : BitVec 3} {v : Rat} (h : fm.ilim.getD code.toNat none = some v) :
    selectIlim fm code = .millivolts v := by
  rw [selectIlim, h]

theorem selectIlim_of_none {fm : FlagMap} {code : BitVec 3} (h : fm.ilim.getD code.toNat none = none) :
    selectIlim fm code = .reserved code := by
  rw [selectIlim, h]

theorem selectDrvcc_of_some {fm : FlagMap} {code : BitVec 2} {v : Rat} (h : fm.drvcc.getD code.toNat none = some v) :
    selectDrvcc fm code = .volts v := by
  rw [selectDrvcc, h]

theorem selectDrvcc_of_none {fm : FlagMap} {code : BitVec 2} (h : fm.drvcc.getD code.toNat none = none) :
    selectDrvcc fm code = .reserved code := by
  rw [selectDrvcc, h]

end Sys2Proof.Machine
end

