-- ==== Sys2Proof/Laws/Pec.lean ====
section
/-! SUPPORT. The bit-serial division is linear over GF(2) in the pair of accumulator and message (spec/40_pec.md
R105). -/

namespace Sys2Proof.Machine

/-- One step of the division is linear. -/
theorem pecBitStep_xor (P : Params) (p q : Byte) (x y : Bool) :
    pecBitStep P (p ^^^ q) (x ^^ y) = pecBitStep P p x ^^^ pecBitStep P q y := by
  have hfb : ((p ^^^ q).getLsbD 7 ^^ (x ^^ y)) = ((p.getLsbD 7 ^^ x) ^^ (q.getLsbD 7 ^^ y)) := by
    rw [BitVec.getLsbD_xor]
    cases p.getLsbD 7 <;> cases q.getLsbD 7 <;> cases x <;> cases y <;> rfl
  have hif : ∀ a b : Bool, (if (a ^^ b) = true then P.pecPoly else 0x00#8) =
      (if a = true then P.pecPoly else 0x00#8) ^^^ (if b = true then P.pecPoly else 0x00#8) := by
    intro a b; cases a <;> cases b <;> simp
  simp only [pecBitStep, hfb, hif, BitVec.shiftLeft_xor_distrib]
  ac_rfl

/-- A run of steps is linear, message bit by message bit. -/
theorem pecBitsStep_xor (P : Params) (bs cs : List Bool) (p q : Byte) (h : bs.length = cs.length) :
    pecBitsStep P (p ^^^ q) (List.zipWith Bool.xor bs cs) = pecBitsStep P p bs ^^^ pecBitsStep P q cs := by
  induction bs generalizing cs p q with
  | nil =>
    cases cs with
    | nil => rfl
    | cons c cs => simp at h
  | cons b bs ih =>
    cases cs with
    | nil => simp at h
    | cons c cs =>
      simp only [List.zipWith_cons_cons, pecBitsStep, List.foldl_cons, pecBitStep_xor] at *
      exact ih cs _ _ (by simpa using h)

/-- The bits of a sum of bytes, in the order of the division. -/
theorem pecBitOrder_xor (P : Params) (b c : Byte) :
    pecBitOrder P (b ^^^ c) = List.zipWith Bool.xor (pecBitOrder P b) (pecBitOrder P c) := by
  unfold pecBitOrder
  split <;> simp

/-- Eight steps on a byte are linear. -/
theorem pecByteStep_xor (P : Params) (p q b c : Byte) :
    pecByteStep P (p ^^^ q) (b ^^^ c) = pecByteStep P p b ^^^ pecByteStep P q c := by
  unfold pecByteStep
  rw [pecBitOrder_xor]
  refine pecBitsStep_xor P _ _ p q ?_
  unfold pecBitOrder
  split <;> rfl

/-- The defining entry of the table (R104). -/
theorem pecLookup_tableOf (P : Params) (i : Byte) : pecLookup (pecTableOf P) i = pecByteStep P 0x00#8 i := by
  unfold pecLookup pecTableOf
  have h : i.toNat < 256 := i.isLt
  simp [List.getD, h]

end Sys2Proof.Machine
end

