-- ==== Sys2Proof/Laws/PerInstr.lean ====
section
/-! SUPPORT. One lemma for each constructor: the word the encoder writes lies in the row of the opcode table
that the constructor stands for. -/

namespace Sys2Proof.Laws

/-- The word of `i` lies in its row: the masked bits are the row's pattern. -/
def EncodeInRow.Statement (i : Instr) : Prop := i.row.covers (encode i) = true

/-- A request lies in a row that fixes the function code. -/
theorem covers_fn (fn : BitVec 5) (a b c : Byte) :
    Row.covers (.fn29 (Decode.mkReq fn 0#8 0#8 0#8) 0x1F000000) (.req (Decode.mkReq fn a b c)) = true := by
  simp only [Row.covers, beq_iff_eq]
  refine BitVec.eq_of_getLsbD_eq fun i hi => ?_
  simp only [BitVec.getLsbD_and, getLsbD_mkReq]
  interval_cases i <;> simp

/-- A request lies in a row that fixes the function code and the address. -/
theorem covers_fn_addr (fn : BitVec 5) (a b c : Byte) :
    Row.covers (.fn29 (Decode.mkReq fn (a &&& 0x7F) 0#8 0#8) 0x1F7F0000) (.req (Decode.mkReq fn a b c)) = true := by
  simp only [Row.covers, beq_iff_eq]
  refine BitVec.eq_of_getLsbD_eq fun i hi => ?_
  simp only [BitVec.getLsbD_and, getLsbD_mkReq]
  interval_cases i <;> simp

/-- A frame lies in the row that fixes its command byte. -/
theorem covers_cmd (cmd data check : Byte) :
    Row.covers (.frame24 (Decode.mkFrame cmd 0#8 0#8) 0xFF0000) (.wire (Decode.mkFrame cmd data check)) = true := by
  simp only [Row.covers, beq_iff_eq]
  refine BitVec.eq_of_getLsbD_eq fun i hi => ?_
  simp only [BitVec.getLsbD_and, getLsbD_mkFrame]
  interval_cases i <;> simp

theorem EncodeInRow.pecSeed : EncodeInRow.Statement .pecSeed := covers_fn _ _ _ _
theorem EncodeInRow.pecBit (din : Bool) : EncodeInRow.Statement (.pecBit din) := covers_fn _ _ _ _
theorem EncodeInRow.pecByte (byte : Byte) : EncodeInRow.Statement (.pecByte byte) := covers_fn _ _ _ _
theorem EncodeInRow.pecTbl (index : Byte) : EncodeInRow.Statement (.pecTbl index) := covers_fn _ _ _ _
theorem EncodeInRow.pecCalc (cmd data : Byte) : EncodeInRow.Statement (.pecCalc cmd data) := covers_fn _ _ _ _
theorem EncodeInRow.cmdPack (addr : Addr) (dir : Bool) : EncodeInRow.Statement (.cmdPack addr dir) := covers_fn _ _ _ _
theorem EncodeInRow.cmdUnpack (cmd : Byte) : EncodeInRow.Statement (.cmdUnpack cmd) := covers_fn _ _ _ _
theorem EncodeInRow.frameWr (addr : Addr) (data : Byte) : EncodeInRow.Statement (.frameWr addr data) := covers_fn _ _ _ _
theorem EncodeInRow.frameRdcmd (addr : Addr) : EncodeInRow.Statement (.frameRdcmd addr) := covers_fn _ _ _ _
theorem EncodeInRow.frameChk (addr : Addr) (dataRx checkRx : Byte) : EncodeInRow.Statement (.frameChk addr dataRx checkRx) := covers_fn _ _ _ _
theorem EncodeInRow.write (addr : Addr) (data : Byte) : EncodeInRow.Statement (.write addr data) := covers_fn _ _ _ _
theorem EncodeInRow.read (addr : Addr) : EncodeInRow.Statement (.read addr) := covers_fn _ _ _ _
theorem EncodeInRow.sm7Dec (byte : Byte) : EncodeInRow.Statement (.sm7Dec byte) := covers_fn _ _ _ _
theorem EncodeInRow.sm7Enc (val : Byte) : EncodeInRow.Statement (.sm7Enc val) := covers_fn _ _ _ _
theorem EncodeInRow.b5Dec (byte : Byte) : EncodeInRow.Statement (.b5Dec byte) := covers_fn _ _ _ _
theorem EncodeInRow.b5Enc (val : Byte) : EncodeInRow.Statement (.b5Enc val) := covers_fn _ _ _ _
theorem EncodeInRow.rawDec (byte : Byte) : EncodeInRow.Statement (.rawDec byte) := covers_fn _ _ _ _
theorem EncodeInRow.rawEnc (byte : Byte) : EncodeInRow.Statement (.rawEnc byte) := covers_fn _ _ _ _
theorem EncodeInRow.flgFault (byte : Byte) : EncodeInRow.Statement (.flgFault byte) := covers_fn _ _ _ _
theorem EncodeInRow.flgOc (byte : Byte) : EncodeInRow.Statement (.flgOc byte) := covers_fn _ _ _ _
theorem EncodeInRow.flgNoc (byte : Byte) : EncodeInRow.Statement (.flgNoc byte) := covers_fn _ _ _ _
theorem EncodeInRow.flgStatus (byte : Byte) : EncodeInRow.Statement (.flgStatus byte) := covers_fn _ _ _ _
theorem EncodeInRow.flgConfig1 (byte : Byte) : EncodeInRow.Statement (.flgConfig1 byte) := covers_fn _ _ _ _
theorem EncodeInRow.flgConfig2 (byte : Byte) : EncodeInRow.Statement (.flgConfig2 byte) := covers_fn _ _ _ _
theorem EncodeInRow.get (addr : Addr) : EncodeInRow.Statement (.get addr) := covers_fn _ _ _ _
theorem EncodeInRow.set (addr : Addr) (val : Byte) : EncodeInRow.Statement (.set addr val) := covers_fn _ _ _ _
theorem EncodeInRow.getMfrFault : EncodeInRow.Statement .getMfrFault := covers_fn_addr _ _ _ _
theorem EncodeInRow.getMfrOcFault : EncodeInRow.Statement .getMfrOcFault := covers_fn_addr _ _ _ _
theorem EncodeInRow.getMfrNocFault : EncodeInRow.Statement .getMfrNocFault := covers_fn_addr _ _ _ _
theorem EncodeInRow.getMfrStatus : EncodeInRow.Statement .getMfrStatus := covers_fn_addr _ _ _ _
theorem EncodeInRow.getMfrConfig1 : EncodeInRow.Statement .getMfrConfig1 := covers_fn_addr _ _ _ _
theorem EncodeInRow.getMfrConfig2 : EncodeInRow.Statement .getMfrConfig2 := covers_fn_addr _ _ _ _
theorem EncodeInRow.getMfrChipCtrl : EncodeInRow.Statement .getMfrChipCtrl := covers_fn_addr _ _ _ _
theorem EncodeInRow.getIdacVlow : EncodeInRow.Statement .getIdacVlow := covers_fn_addr _ _ _ _
theorem EncodeInRow.getIdacVhigh : EncodeInRow.Statement .getIdacVhigh := covers_fn_addr _ _ _ _
theorem EncodeInRow.getIdacSetcur : EncodeInRow.Statement .getIdacSetcur := covers_fn_addr _ _ _ _
theorem EncodeInRow.getMfrSsfm : EncodeInRow.Statement .getMfrSsfm := covers_fn_addr _ _ _ _
theorem EncodeInRow.setMfrChipCtrl (val : Byte) : EncodeInRow.Statement (.setMfrChipCtrl val) := covers_fn_addr _ _ _ _
theorem EncodeInRow.setIdacVlow (val : Byte) : EncodeInRow.Statement (.setIdacVlow val) := covers_fn_addr _ _ _ _
theorem EncodeInRow.setIdacVhigh (val : Byte) : EncodeInRow.Statement (.setIdacVhigh val) := covers_fn_addr _ _ _ _
theorem EncodeInRow.setIdacSetcur (val : Byte) : EncodeInRow.Statement (.setIdacSetcur val) := covers_fn_addr _ _ _ _
theorem EncodeInRow.setMfrSsfm (val : Byte) : EncodeInRow.Statement (.setMfrSsfm val) := covers_fn_addr _ _ _ _
theorem EncodeInRow.rd24MfrFault (data check : Byte) : EncodeInRow.Statement (.rd24MfrFault data check) := covers_cmd _ _ _
theorem EncodeInRow.rd24MfrOcFault (data check : Byte) : EncodeInRow.Statement (.rd24MfrOcFault data check) := covers_cmd _ _ _
theorem EncodeInRow.rd24MfrNocFault (data check : Byte) : EncodeInRow.Statement (.rd24MfrNocFault data check) := covers_cmd _ _ _
theorem EncodeInRow.rd24MfrStatus (data check : Byte) : EncodeInRow.Statement (.rd24MfrStatus data check) := covers_cmd _ _ _
theorem EncodeInRow.rd24MfrConfig1 (data check : Byte) : EncodeInRow.Statement (.rd24MfrConfig1 data check) := covers_cmd _ _ _
theorem EncodeInRow.rd24MfrConfig2 (data check : Byte) : EncodeInRow.Statement (.rd24MfrConfig2 data check) := covers_cmd _ _ _
theorem EncodeInRow.rd24MfrChipCtrl (data check : Byte) : EncodeInRow.Statement (.rd24MfrChipCtrl data check) := covers_cmd _ _ _
theorem EncodeInRow.rd24IdacVlow (data check : Byte) : EncodeInRow.Statement (.rd24IdacVlow data check) := covers_cmd _ _ _
theorem EncodeInRow.rd24IdacVhigh (data check : Byte) : EncodeInRow.Statement (.rd24IdacVhigh data check) := covers_cmd _ _ _
theorem EncodeInRow.rd24IdacSetcur (data check : Byte) : EncodeInRow.Statement (.rd24IdacSetcur data check) := covers_cmd _ _ _
theorem EncodeInRow.rd24MfrSsfm (data check : Byte) : EncodeInRow.Statement (.rd24MfrSsfm data check) := covers_cmd _ _ _
theorem EncodeInRow.wr24MfrChipCtrl (data check : Byte) : EncodeInRow.Statement (.wr24MfrChipCtrl data check) := covers_cmd _ _ _
theorem EncodeInRow.wr24IdacVlow (data check : Byte) : EncodeInRow.Statement (.wr24IdacVlow data check) := covers_cmd _ _ _
theorem EncodeInRow.wr24IdacVhigh (data check : Byte) : EncodeInRow.Statement (.wr24IdacVhigh data check) := covers_cmd _ _ _
theorem EncodeInRow.wr24IdacSetcur (data check : Byte) : EncodeInRow.Statement (.wr24IdacSetcur data check) := covers_cmd _ _ _
theorem EncodeInRow.wr24MfrSsfm (data check : Byte) : EncodeInRow.Statement (.wr24MfrSsfm data check) := covers_cmd _ _ _

end Sys2Proof.Laws
end

