-- ==== Sys2Proof/Tests/Slice0.lean ====
section
/-! SUPPORT. The author's tests. Expected values are those of spec/95_test_vectors.md or are written out from
the encodings of spec/30_encoding.md and the rules cited; none is the model's own answer. At the end, for every
statement of Certificates/Slice0/Obligations.lean that has a hypothesis, a concrete case that meets it. -/

namespace Sys2Proof.Tests

open Sys2Proof Sys2Proof.Machine

/-! ### Helpers -/

/-- The next state, if there is one. -/
def nextOf (o : Host.Outcome State Fault Refusal) : Option State :=
  match o with
  | .next t => some t
  | _ => none

/-- The reset state with a register `PEC` and the oracle's next answers. -/
def base (pec : Byte) (script : List Byte) : State := { State.reset with pec := pec, script := script }

/-- The reset state with the reference device attached, holding `mem`. -/
def withDevice (mem : Memory) : State := { State.reset with attached := .reference, dev := ⟨mem, []⟩ }

/-- The response to one request word, with the oracle answering `script`. -/
def reply (script : List Byte) (w : Nat) : Option (BitVec 24 × Bool × Bool) :=
  (nextOf (step ((base 0x41 script).withFetchWord 32 w))).map fun t => (t.resp.y, t.resp.flag, t.resp.refused)

/-- The response to one wire frame. -/
def replyFrame (w : Nat) : Option (BitVec 24 × Bool × Bool) :=
  (nextOf (step ((base 0x41 []).withFetchWord 24 w))).map fun t => (t.resp.y, t.resp.flag, t.resp.refused)

/-- The result proper of one request word. -/
def resultOf (script : List Byte) (w : Nat) : Option Decoded :=
  (nextOf (step ((base 0x41 script).withFetchWord 32 w))).map fun t => t.resp.decoded

/-- The history one request word leaves. -/
def eventsOf (script : List Byte) (w : Nat) : Option (List Event) :=
  (nextOf (step ((base 0x41 script).withFetchWord 32 w))).map fun t => t.hist

/-! ### Decoding: for every constructor a word written out from R61, R62, R71, R72 -/

theorem test_decode_pecSeed : decodeTableWord 32 0x00000000 = some .pecSeed := by decide
theorem test_decode_pecBit : decodeTableWord 32 0x01010000 = some (.pecBit true) := by decide
theorem test_decode_pecByte : decodeTableWord 32 0x02100000 = some (.pecByte 0x10) := by decide
theorem test_decode_pecTbl : decodeTableWord 32 0x03510000 = some (.pecTbl 0x51) := by decide
theorem test_decode_pecCalc : decodeTableWord 32 0x04104500 = some (.pecCalc 0x10 0x45) := by decide
theorem test_decode_cmdPack : decodeTableWord 32 0x087F0100 = some (.cmdPack 0x7F true) := by decide
theorem test_decode_cmdUnpack : decodeTableWord 32 0x09150000 = some (.cmdUnpack 0x15) := by decide
theorem test_decode_frameWr : decodeTableWord 32 0x0A084500 = some (.frameWr 0x08 0x45) := by decide
theorem test_decode_frameRdcmd : decodeTableWord 32 0x0B0B0000 = some (.frameRdcmd 0x0B) := by decide
theorem test_decode_frameChk : decodeTableWord 32 0x0C0845D0 = some (.frameChk 0x08 0x45 0xD0) := by decide
theorem test_decode_write : decodeTableWord 32 0x0D0B1B00 = some (.write 0x0B 0x1B) := by decide
theorem test_decode_read : decodeTableWord 32 0x0E0A0000 = some (.read 0x0A) := by decide
theorem test_decode_sm7Dec : decodeTableWord 32 0x10C50000 = some (.sm7Dec 0xC5) := by decide
theorem test_decode_sm7Enc : decodeTableWord 32 0x11FB0000 = some (.sm7Enc 0xFB) := by decide
theorem test_decode_b5Dec : decodeTableWord 32 0x12E10000 = some (.b5Dec 0xE1) := by decide
theorem test_decode_b5Enc : decodeTableWord 32 0x13FD0000 = some (.b5Enc 0xFD) := by decide
theorem test_decode_rawDec : decodeTableWord 32 0x14FF0000 = some (.rawDec 0xFF) := by decide
theorem test_decode_rawEnc : decodeTableWord 32 0x151B0000 = some (.rawEnc 0x1B) := by decide
theorem test_decode_flgFault : decodeTableWord 32 0x18050000 = some (.flgFault 0x05) := by decide
theorem test_decode_flgOc : decodeTableWord 32 0x19210000 = some (.flgOc 0x21) := by decide
theorem test_decode_flgNoc : decodeTableWord 32 0x1A040000 = some (.flgNoc 0x04) := by decide
theorem test_decode_flgStatus : decodeTableWord 32 0x1B050000 = some (.flgStatus 0x05) := by decide
theorem test_decode_flgConfig1 : decodeTableWord 32 0x1C0B0000 = some (.flgConfig1 0x0B) := by decide
theorem test_decode_flgConfig2 : decodeTableWord 32 0x1D090000 = some (.flgConfig2 0x09) := by decide
theorem test_decode_get : decodeTableWord 32 0x1E7F0000 = some (.get 0x7F) := by decide
theorem test_decode_set : decodeTableWord 32 0x1F060100 = some (.set 0x06 0x01) := by decide
theorem test_decode_getMfrFault : decodeTableWord 32 0x1E010000 = some .getMfrFault := by decide
theorem test_decode_getMfrOcFault : decodeTableWord 32 0x1E020000 = some .getMfrOcFault := by decide
theorem test_decode_getMfrNocFault : decodeTableWord 32 0x1E030000 = some .getMfrNocFault := by decide
theorem test_decode_getMfrStatus : decodeTableWord 32 0x1E040000 = some .getMfrStatus := by decide
theorem test_decode_getMfrConfig1 : decodeTableWord 32 0x1E050000 = some .getMfrConfig1 := by decide
theorem test_decode_getMfrConfig2 : decodeTableWord 32 0x1E060000 = some .getMfrConfig2 := by decide
theorem test_decode_getMfrChipCtrl : decodeTableWord 32 0x1E070000 = some .getMfrChipCtrl := by decide
theorem test_decode_getIdacVlow : decodeTableWord 32 0x1E080000 = some .getIdacVlow := by decide
theorem test_decode_getIdacVhigh : decodeTableWord 32 0x1E090000 = some .getIdacVhigh := by decide
theorem test_decode_getIdacSetcur : decodeTableWord 32 0x1E0A0000 = some .getIdacSetcur := by decide
theorem test_decode_getMfrSsfm : decodeTableWord 32 0x1E0B0000 = some .getMfrSsfm := by decide
theorem test_decode_setMfrChipCtrl : decodeTableWord 32 0x1F071700 = some (.setMfrChipCtrl 0x17) := by decide
theorem test_decode_setIdacVlow : decodeTableWord 32 0x1F081800 = some (.setIdacVlow 0x18) := by decide
theorem test_decode_setIdacVhigh : decodeTableWord 32 0x1F091900 = some (.setIdacVhigh 0x19) := by decide
theorem test_decode_setIdacSetcur : decodeTableWord 32 0x1F0A1A00 = some (.setIdacSetcur 0x1A) := by decide
theorem test_decode_setMfrSsfm : decodeTableWord 32 0x1F0B1B00 = some (.setMfrSsfm 0x1B) := by decide
theorem test_decode_rd24MfrFault : decodeTableWord 24 0x03056A = some (.rd24MfrFault 0x05 0x6A) := by decide
theorem test_decode_rd24MfrOcFault : decodeTableWord 24 0x0521E8 = some (.rd24MfrOcFault 0x21 0xE8) := by decide
theorem test_decode_rd24MfrNocFault : decodeTableWord 24 0x070439 = some (.rd24MfrNocFault 0x04 0x39) := by decide
theorem test_decode_rd24MfrStatus : decodeTableWord 24 0x0907E6 = some (.rd24MfrStatus 0x07 0xE6) := by decide
theorem test_decode_rd24MfrConfig1 : decodeTableWord 24 0x0B0BE8 = some (.rd24MfrConfig1 0x0B 0xE8) := by decide
theorem test_decode_rd24MfrConfig2 : decodeTableWord 24 0x0D0998 = some (.rd24MfrConfig2 0x09 0x98) := by decide
theorem test_decode_rd24MfrChipCtrl : decodeTableWord 24 0x0F018A = some (.rd24MfrChipCtrl 0x01 0x8A) := by decide
theorem test_decode_rd24IdacVlow : decodeTableWord 24 0x1145D0 = some (.rd24IdacVlow 0x45 0xD0) := by decide
theorem test_decode_rd24IdacVhigh : decodeTableWord 24 0x137F5C = some (.rd24IdacVhigh 0x7F 0x5C) := by decide
theorem test_decode_rd24IdacSetcur : decodeTableWord 24 0x150C7C = some (.rd24IdacSetcur 0x0C 0x7C) := by decide
theorem test_decode_rd24MfrSsfm : decodeTableWord 24 0x171B33 = some (.rd24MfrSsfm 0x1B 0x33) := by decide
theorem test_decode_wr24MfrChipCtrl : decodeTableWord 24 0x0E019F = some (.wr24MfrChipCtrl 0x01 0x9F) := by decide
theorem test_decode_wr24IdacVlow : decodeTableWord 24 0x1045C5 = some (.wr24IdacVlow 0x45 0xC5) := by decide
theorem test_decode_wr24IdacVhigh : decodeTableWord 24 0x123F8E = some (.wr24IdacVhigh 0x3F 0x8E) := by decide
theorem test_decode_wr24IdacSetcur : decodeTableWord 24 0x14014A = some (.wr24IdacSetcur 0x01 0x4A) := by decide
theorem test_decode_wr24MfrSsfm : decodeTableWord 24 0x161B26 = some (.wr24MfrSsfm 0x1B 0x26) := by decide

/-! ### Rejections of the decoder, by name (R73 (a), R70, R72, R74) -/

theorem test_rejects_unassigned_codes :
    [0x05000000, 0x06000000, 0x07000000, 0x0F000000, 0x16000000, 0x17000000].map (fun w => decode (.req w)) =
      [.error (.unassignedFn 0x05), .error (.unassignedFn 0x06), .error (.unassignedFn 0x07), .error (.unassignedFn 0x0F),
        .error (.unassignedFn 0x16), .error (.unassignedFn 0x17)] := by decide
theorem test_rejects_unlisted_frame : decode (.wire 0x020064) = .error (.noSuchFrame 0x02) := by decide
theorem test_rejects_lengths :
    decodeBytes [] = .error (.badLength 0) ∧ decodeBytes [0x11, 0x45] = .error (.badLength 2) ∧
      decodeBytes [0, 0, 0, 0, 0] = .error (.badLength 5) := by decide
theorem test_rejects_wide_code : decodeBytes [0x20, 0, 0, 0] = .error (.fnTooWide 0x20) := by decide
theorem test_bytes_request : decodeBytes [0x0C, 0x01, 0x05, 0x6A] = .ok (.frameChk 0x01 0x05 0x6A) := by decide
theorem test_bytes_frame : decodeBytes [0x10, 0x45, 0xC5] = .ok (.wr24IdacVlow 0x45 0xC5) := by decide
/-- Operand bits an operation does not name are ignored (R70). -/
theorem test_ignored_bits :
    decode (.req 0x1E88FFFF) = .ok .getIdacVlow ∧ decode (.req 0x01FEFFFF) = .ok (.pecBit false) ∧
      decode (.req 0x0888FEFF) = .ok (.cmdPack 0x08 false) := by decide

/-! ### Well-formedness: a word has one spelling (R72, log entry 8) -/

theorem test_wf_refuses_get_of_spelled : [0x01, 0x06, 0x0B].map (fun a => (Instr.get a).wellFormed) = [false, false, false] := by decide
theorem test_wf_refuses_set_of_spelled : [0x07, 0x0B].map (fun a => (Instr.set a 0x05).wellFormed) = [false, false] := by decide
theorem test_wf_accepts_neighbours :
    (Instr.get 0x00).wellFormed = true ∧ (Instr.get 0x0C).wellFormed = true ∧ (Instr.set 0x06 1).wellFormed = true ∧
      (Instr.set 0x0C 1).wellFormed = true := by decide
theorem test_encode_uses_one_word : encode (.get 0x08) = encode .getIdacVlow ∧ encode .getIdacVlow = .req 0x1E080000 := by decide

/-! ### Reset (R230) -/

theorem test_reset_registers :
    State.reset.pec = 0x41 ∧ State.reset.cmd = 0 ∧ State.reset.mismatch = false ∧ State.reset.hist = [] := by decide
theorem test_reset_memory_wf : Memory.wf State.reset.dev.mem = true := by decide
theorem test_wf_refuses_zero_entry : Memory.wf [(8, 0x00)] = false := by decide
theorem test_wf_refuses_unsorted : Memory.wf [(9, 0x01), (8, 0x01)] = false := by decide
theorem test_write_zero_unlists : Memory.write [(8, 0x45)] 8 0x00 = [] := by decide

/-! ### Results: the vectors of spec/95_test_vectors.md -/

theorem test_pecSeed : reply [] 0x00000000 = some (0x000041, false, false) := by decide
theorem test_pecBit_zero : reply [] 0x01000000 = some (0x000082, false, false) := by decide
theorem test_pecBit_one : reply [] 0x01010000 = some (0x000085, false, false) := by decide
theorem test_pecByte : reply [] 0x02100000 = some (0x0000B0, false, false) := by decide
theorem test_pecByte_self : reply [] 0x02410000 = some (0x000000, false, false) := by decide
theorem test_pecTbl : reply [] 0x03510000 = some (0x0000B0, false, false) := by decide
theorem test_pecTbl_last : reply [] 0x03FF0000 = some (0x0000F3, false, false) := by decide
theorem test_pecCalc : reply [] 0x04104500 = some (0x0000C5, false, false) := by decide
theorem test_pecCalc_total : reply [] 0x04800000 = some (0x0000F8, false, false) := by decide
theorem test_cmdPack : reply [] 0x087F0100 = some (0x0000FF, false, false) := by decide
theorem test_cmdPack_write : reply [] 0x080B0000 = some (0x000016, false, false) := by decide
theorem test_cmdUnpack : reply [] 0x09150000 = some (0x00010A, false, false) := by decide
theorem test_cmdUnpack_write : reply [] 0x09100000 = some (0x000008, false, false) := by decide
theorem test_frameWr : reply [] 0x0A093F00 = some (0x123F8E, false, false) := by decide
theorem test_frameWr_total : reply [] 0x0A0C0000 = some (0x1800B1, false, false) := by decide
theorem test_frameRdcmd : reply [] 0x0B0B0000 = some (0x000017, false, false) := by decide
theorem test_frameChk_right : reply [] 0x0C0845D0 = some (0x00D045, false, false) := by decide
theorem test_frameChk_wrong : reply [] 0x0C01056B = some (0x006A05, true, false) := by decide
theorem test_write : reply [] 0x0D084500 = some (0x1045C5, false, false) := by decide
theorem test_write_refused : reply [] 0x0D010500 = some (0x000000, false, true) := by decide
theorem test_read_wrong : reply [0xEE, 0x05, 0x6B] 0x0E010000 = some (0x006B05, true, false) := by decide
theorem test_read_refused : reply [] 0x0E0C0000 = some (0x000000, false, true) := by decide
theorem test_sm7Dec : reply [] 0x10C50000 = some (0x0000FB, false, false) := by decide
theorem test_sm7Dec_negative_zero : resultOf [] 0x10400000 = some (.value 0) := by decide
theorem test_sm7Enc : reply [] 0x11FB0000 = some (0x000045, false, false) := by decide
theorem test_sm7Enc_clamps : reply [] 0x11800000 = some (0x00007F, false, false) := by decide
theorem test_b5Dec : reply [] 0x12E10000 = some (0x00001F, false, false) := by decide
theorem test_b5Dec_sixteen : resultOf [] 0x12A00000 = some (.value 16) := by decide
theorem test_b5Enc : reply [] 0x13110000 = some (0x00000F, false, false) := by decide
theorem test_b5Enc_clamps : reply [] 0x13FD0000 = some (0x000010, false, false) := by decide
theorem test_rawDec : reply [] 0x14FF0000 = some (0x0000FF, false, false) := by decide
theorem test_rawEnc : reply [] 0x15FF0000 = some (0x0000FF, false, false) := by decide
theorem test_flgFault : resultOf [] 0x18050000 = some (.flags [.overTemp, .v5Undervoltage]) := by decide
theorem test_flgFault_unmapped : reply [] 0x18FF0000 = some (0x00007F, false, false) := by decide
theorem test_flgOc : resultOf [] 0x19210000 = some (.flags [.overcurrent 0, .overcurrent 5]) := by decide
theorem test_flgOc_unmapped : reply [] 0x19C00000 = some (0x000000, false, false) := by decide
theorem test_flgNoc : resultOf [] 0x1A040000 = some (.flags [.negOvercurrent 2]) := by decide
theorem test_flgNoc_all : reply [] 0x1A3F0000 = some (0x00003F, false, false) := by decide
theorem test_flgStatus : resultOf [] 0x1B070000 = some (.flags [.powerGood, .maxCurrent, .softStartDone]) := by decide
theorem test_flgStatus_unmapped : reply [] 0x1BF80000 = some (0x000000, false, false) := by decide
theorem test_flgConfig1 : resultOf [] 0x1C030000 = some (.config1 [] (.millivolts 40) (.volts 5)) := by decide
theorem test_flgConfig1_reserved : reply [] 0x1CFF0000 = some (0x001F20, false, false) := by decide
theorem test_flgConfig2 : resultOf [] 0x1D090000 = some (.flags [.buckMode, .dcm]) := by decide
theorem test_flgConfig2_unmapped : reply [] 0x1DE00000 = some (0x000000, false, false) := by decide
theorem test_get_refused : reply [] 0x1E7F0000 = some (0x000000, false, true) := by decide
theorem test_set_refused : reply [] 0x1F060100 = some (0x000000, false, true) := by decide
theorem test_getMfrFault : reply [0x00, 0x05, 0x6A] 0x1E010000 = some (0x050005, false, false) := by decide
theorem test_getMfrOcFault : reply [0x00, 0x21, 0xE8] 0x1E020000 = some (0x210021, false, false) := by decide
theorem test_getMfrNocFault : reply [0x00, 0x04, 0x39] 0x1E030000 = some (0x040004, false, false) := by decide
theorem test_getMfrStatus : reply [0x00, 0x07, 0xE6] 0x1E040000 = some (0x070007, false, false) := by decide
theorem test_getMfrConfig1 : reply [0x00, 0x0B, 0xE8] 0x1E050000 = some (0x0B0B00, false, false) := by decide
theorem test_getMfrConfig2 : reply [0x00, 0x09, 0x98] 0x1E060000 = some (0x090009, false, false) := by decide
theorem test_getMfrChipCtrl : reply [0x00, 0x01, 0x8A] 0x1E070000 = some (0x010001, false, false) := by decide
theorem test_getIdacVlow : reply [0x00, 0x45, 0xD0] 0x1E080000 = some (0x4500FB, false, false) := by decide
theorem test_getIdacVhigh : reply [0x00, 0x7F, 0x5C] 0x1E090000 = some (0x7F00C1, false, false) := by decide
theorem test_getIdacSetcur : reply [0x00, 0x0C, 0x7C] 0x1E0A0000 = some (0x0C0014, false, false) := by decide
theorem test_getMfrSsfm : reply [0x00, 0x1B, 0x33] 0x1E0B0000 = some (0x1B001B, false, false) := by decide
theorem test_getIdacVlow_wrong : reply [0x00, 0x45, 0xD1] 0x1E080000 = some (0x4500FB, true, false) := by decide
theorem test_setMfrChipCtrl : reply [] 0x1F07FF00 = some (0x0EFF6B, false, false) := by decide
theorem test_setIdacVlow : reply [] 0x1F088000 = some (0x107F63, false, false) := by decide
theorem test_setIdacVhigh : reply [] 0x1F09FF00 = some (0x1241F3, false, false) := by decide
theorem test_setIdacSetcur : reply [] 0x1F0A2800 = some (0x14014A, false, false) := by decide
theorem test_setMfrSsfm : reply [] 0x1F0B1B00 = some (0x161B26, false, false) := by decide
theorem test_setIdacSetcur_rebiased : reply [] 0x1F0A1100 = some (0x140F60, false, false) := by decide
theorem test_rd24MfrFault : replyFrame 0x03056A = some (0x006A05, false, false) := by decide
theorem test_rd24MfrOcFault : replyFrame 0x0521E8 = some (0x00E821, false, false) := by decide
theorem test_rd24MfrNocFault : replyFrame 0x070439 = some (0x003904, false, false) := by decide
theorem test_rd24MfrStatus : replyFrame 0x0907E6 = some (0x00E607, false, false) := by decide
theorem test_rd24MfrConfig1 : replyFrame 0x0B0BE8 = some (0x00E80B, false, false) := by decide
theorem test_rd24MfrConfig2 : replyFrame 0x0D0998 = some (0x009809, false, false) := by decide
theorem test_rd24MfrChipCtrl : replyFrame 0x0F018A = some (0x008A01, false, false) := by decide
theorem test_rd24IdacVlow : replyFrame 0x1145D0 = some (0x00D045, false, false) := by decide
theorem test_rd24IdacVhigh : replyFrame 0x137F5C = some (0x005C7F, false, false) := by decide
theorem test_rd24IdacSetcur : replyFrame 0x150C7C = some (0x007C0C, false, false) := by decide
theorem test_rd24MfrSsfm : replyFrame 0x171B33 = some (0x00331B, false, false) := by decide
theorem test_wr24MfrChipCtrl : replyFrame 0x0E019F = some (0x0E019F, false, false) := by decide
theorem test_wr24IdacVlow : replyFrame 0x1045C5 = some (0x1045C5, false, false) := by decide
theorem test_wr24IdacVhigh : replyFrame 0x123F8E = some (0x123F8E, false, false) := by decide
theorem test_wr24IdacSetcur : replyFrame 0x14014A = some (0x14014A, false, false) := by decide
theorem test_wr24MfrSsfm : replyFrame 0x161B26 = some (0x161B26, false, false) := by decide
theorem test_rd24_wrong_check : replyFrame 0x1145D1 = some (0x00D145, true, false) := by decide
theorem test_wr24_wrong_check : replyFrame 0x1045C4 = some (0x000000, false, true) := by decide
/-- A register and a flag outside the default tables (R5, R160): bit 1 is unmapped. -/
theorem test_other_register_decodes_its_flag :
    let fm := { Config.flagMap with others := [(.other "MFR_EXTRA", [some (.other "BoostStall"), none, some .hiZ])] }
    decodeKind Params.hardware fm (.flags (.other (.other "MFR_EXTRA"))) 0x07 =
      ⟨0x05, .flags [.other "BoostStall", .hiZ]⟩ := by decide
/-- Selector tables other than R33's (R5, R167): a reserved code before a value, and a value that is not whole. -/
theorem test_other_selector_tables :
    let fm := { Config.flagMap with ilim := [none, some 15], drvcc := [some (11 / 2)] }
    selectIlim fm 0 = .reserved 0 ∧ selectIlim fm 1 = .millivolts 15 ∧ selectDrvcc fm 0 = .volts (11 / 2) :=
  ⟨rfl, rfl, rfl⟩
theorem test_unassigned_code_is_refused : reply [] 0x17000000 = some (0x000000, false, true) := by decide

/-! ### Histories (V-FRM-XACT, V-EXC-1) -/

theorem test_write_history :
    eventsOf [0x01, 0x02, 0x03] 0x0D084500 =
      some [.select, .xfer 0x10 0x01, .xfer 0x45 0x02, .xfer 0xC5 0x03, .deselect] := by decide
theorem test_read_history_reports_once :
    eventsOf [0x00, 0x05, 0x6B] 0x0E010000 =
      some [.select, .xfer 0x03 0x00, .xfer 0x00 0x05, .xfer 0x00 0x6B, .deselect, .diag 0x01 0x05 0x6B 0x6A] := by decide
theorem test_frameChk_history : eventsOf [] 0x0C080000 = some [.diag 0x08 0x00 0x00 0x0C] := by decide
theorem test_frameWr_no_event : eventsOf [] 0x0A084500 = some [] := by decide

/-! ### Program P1, its two steps: the reference device stores and answers -/

theorem test_reference_write :
    (nextOf (step ((withDevice []).withFetchWord 32 0x1F08FB00))).map (fun t => (t.resp.y, t.dev.mem)) =
      some (0x1045C5, [(8, 0x45)]) := by decide
theorem test_reference_read :
    (nextOf (step ((withDevice [(8, 0x45)]).withFetchWord 32 0x1E080000))).map (fun t => (t.resp.y, t.resp.flag, t.rxchk)) =
      some (0x4500FB, false, 0xD0) := by decide

/-! ### For each statement with hypotheses, a case that meets them -/

/-- The reset state under `FAIL_CLOSED` with the oracle's next answers. -/
def closed (script : List Byte) : State :=
  { base 0x41 script with params := { Params.hardware with failClosed := true } }

theorem test_witness_StepRunsDecodedInstruction :
    (State.reset.withFetchWord 32 0x04104500).pending = [.req 0x04104500] ∧
      decode (.req 0x04104500) = .ok (.pecCalc 0x10 0x45) := by decide
theorem test_witness_StepWaitsOrRefusesUnassignedCodes :
    State.reset.pending = [] ∧ (State.reset.withFetchWord 32 0x05000000).pending = [.req 0x05000000] ∧
      [0x05000000, 0x06000000, 0x07000000, 0x0F000000, 0x16000000, 0x17000000].map Decode.fn =
        [0x05#5, 0x06#5, 0x07#5, 0x0F#5, 0x16#5, 0x17#5] := by decide
theorem test_witness_DecodeInvertsEncode : (Instr.frameChk 0x7F 0xFF 0x00).wellFormed = true := by decide
theorem test_witness_DecodedWordLiesInItsRow :
    decode (.req 0x1F080000) = .ok (.setIdacVlow 0) ∧ decode (.wire 0x17FFFF) = .ok (.rd24MfrSsfm 0xFF 0xFF) := by decide
theorem test_witness_DecoderIgnoresUnnamedBits :
    decode (.req 0x1E080000) = .ok .getIdacVlow ∧
      (0x1E88FFFF : ReqWord) &&& namedBits .getIdacVlow = 0x1E080000 &&& namedBits .getIdacVlow := by decide
/-- For PecSeedLoadsTheSeed, PecBitShiftsWithFeedback, PecByteIsEightBitSteps, TableStepLaw,
PecTblReturnsTheTableEntry, PecCalcReturnsTheCheckByte, TableAndBitSerialRealisationsAgree,
CheckByteIsThePolynomialRemainder, SerialScheduleGivesTheCheckByte, CheckByteIsAffineAndBijective. -/
theorem test_witness_PecStatements :
    State.reset.params = Params.hardware ∧ Params.hardware.pecMsbFirst = true ∧ State.reset.tbl = Config.pecTable :=
  ⟨rfl, rfl, rfl⟩
/-- An error of one bit, of two, of three, of five, and one in each byte; 0x000107 is one that escapes (R108). -/
theorem test_witness_LightFrameErrorsAreDetected :
    frameWellFormed Params.hardware 0x1145D0 = true ∧ frameWellFormed Params.hardware (0x1145D0 ^^^ 0x000107) = true ∧
      [0x000001#24, 0x800001#24, 0x810001#24, 0x00001F#24].map weight = [1, 2, 3, 5] ∧
      (0xFF0000#24 &&& 0x00FFFF = 0 ∧ 0x00FF00#24 &&& 0xFF00FF = 0 ∧ 0x0000FF#24 &&& 0xFFFF00 = 0) := by decide
/-- For FrameWrPacksAWellFormedFrame and, at both ends of its range, FrameChkComparesAndReturnsTheData. -/
theorem test_witness_FrameStatements :
    State.reset.params = Params.hardware ∧ (0x01 : Addr) ≤ 0x01 ∧ (0x0B : Addr) ≤ 0x0B := by decide
/-- For WriteSendsOneFrame, ReadReturnsTheReceivedByte, RequestsOutsideTheTableAreRefused, GetReadsThenDecodes and
SetEncodesThenWrites, each clause: `REGTAB` at the edges of its two ranges (R28). -/
theorem test_witness_RegisterTable :
    [0x00, 0x01, 0x0B, 0x0C].map (fun a => (findReg State.reset.regtab a).isSome) = [false, true, true, false] ∧
      [0x06, 0x07, 0x0B, 0x0C].map (fun a => (findWritable State.reset.regtab a).isSome) = [false, true, true, false] ∧
      findReg State.reset.regtab 0x0C = none ∧ findWritable State.reset.regtab 0x06 = none ∧
      State.reset.regtab = Config.regtab ∧ State.reset.params.failClosed = false := by decide
/-- For TransactionsTakeAnyOracleAnswer, with test_witness_RegisterTable's addresses. -/
theorem test_witness_oracleAnswers : oracleAnswers (base 0x41 [0xAA, 0x05, 0x6A, 0x11]) 0xAA 0x05 0x6A [0x11] :=
  ⟨rfl, rfl⟩
theorem test_witness_ReferenceDeviceStoresAndAnswers :
    (withDevice [(8, 0x45)]).attached = .reference ∧ deviceHas 0x01 = true ∧ deviceHas 0x0B = true ∧ deviceHas 0x0C = false ∧
      (findWritable (withDevice [(8, 0x45)]).regtab 0x0B).isSome = true := by decide
/-- For the last clause of RequestsOutsideTheTableAreRefused: a table that marks a flag register read-write. -/
theorem test_witness_RequestsOutsideTheTableAreRefused :
    findWritable [⟨0x01, .mfrFault, .readWrite, .flags .fault⟩] 0x01 = some ⟨0x01, .mfrFault, .readWrite, .flags .fault⟩ ∧
      encodeKind Params.hardware (.flags .fault) 0x05 = none := by decide
theorem test_witness_BitCounterEndsAtTwentyFour :
    (∃ t, exec (.write 0x08 0x45) (base 0x41 [1, 2, 3]) = .next t ∧ Event.select ∈ t.hist.drop 0 ∧ t.bitcnt = 24) ∧
      ∃ t, exec .pecSeed (base 0x41 []) = .next t ∧ Event.select ∉ t.hist.drop 0 ∧ t.bitcnt = 0 :=
  ⟨⟨_, rfl, by decide, by decide⟩, ⟨_, rfl, by decide, by decide⟩⟩
theorem test_witness_FailClosedWithholdsTheData :
    oracleAnswers (closed [0x00, 0x05, 0x6B]) 0x00 0x05 0x6B [] ∧ (findReg (closed []).regtab 0x01).isSome = true ∧
      (closed []).params.failClosed = true ∧ readCheck (closed []) 0x01 0x05 ≠ 0x6B :=
  ⟨⟨rfl, rfl⟩, by decide, rfl, by decide⟩
/-- For Sm7DecReturnsTheSignedMagnitude, Sm7EncClampsAndEncodes, B5EncClampsAndRebiases,
B5DecReturnsTheUnbiasedValue. -/
theorem test_witness_ConverterVariants :
    State.reset.params.sm7Variant = .signMagnitude ∧ State.reset.params.b5Variant = .document := by decide
/-- For Sm7ConvertersRoundTrip, B5ConvertersRoundTrip and AlternativeConvertersRoundTrip: the ends of the ranges. -/
theorem test_witness_ConverterRanges :
    (0xC1#8).toInt = -63 ∧ (0x3F#8).toInt = 63 ∧ (0x1F#8).toNat = 31 ∧ (0x00#8).toNat = 0 := by decide
theorem test_witness_UnpackersReportExactlyTheActiveFlags :
    (Instr.flgConfig2 0x09, FlagReg.config2) ∈
      [(Instr.flgFault 0x09, FlagReg.fault), (.flgOc 0x09, .oc), (.flgNoc 0x09, .noc), (.flgStatus 0x09, .status),
        (.flgConfig2 0x09, .config2)] := by decide
/-- The last code of each selector that has a value and the first reserved one (R167). -/
theorem test_witness_FlgConfig1DecodesSelectors :
    State.reset.flagMap.ilim.getD 4 none = some 50 ∧ State.reset.flagMap.ilim.getD 5 none = none ∧
      State.reset.flagMap.drvcc.getD 2 none = some 10 ∧ State.reset.flagMap.drvcc.getD 3 none = none := by decide
/-- One of the six registers and one that is not among them. -/
theorem test_witness_FlagKindsDecodeByTheirMapRow :
    FlagReg.status ≠ .config1 ∧ FlagReg.other (.other "MFR_EXTRA") ≠ .config1 := by decide
/-- For SetEncodesThenWrites and SetThenGetReturnsTheClampedValue: a register of each kind, with its encoded byte. -/
theorem test_witness_SetStatements :
    findWritable State.reset.regtab 0x07 = some ⟨0x07, .mfrChipCtrl, .readWrite, .raw⟩ ∧
      findWritable State.reset.regtab 0x08 = some ⟨0x08, .idacVlow, .readWrite, .sm7⟩ ∧
      findWritable State.reset.regtab 0x0A = some ⟨0x0A, .idacSetcur, .readWrite, .b5⟩ ∧
      encodeKind Params.hardware .raw 0xFF = some 0xFF ∧ encodeKind Params.hardware .sm7 0x80 = some 0x7F ∧
      encodeKind Params.hardware .b5 0x28 = some 0x01 := by decide
/-- For GetReadsThenDecodes. -/
theorem test_witness_GetStatements :
    findReg State.reset.regtab 0x05 = some ⟨0x05, .mfrConfig1, .readOnly, .flags .config1⟩ := by decide
theorem test_witness_SpelledGettersReadTheirRegister :
    oracleAnswers (base 0x41 [0x00, 0x45, 0xD1]) 0x00 0x45 0xD1 [] ∧
      (Instr.getMfrSsfm, 0x0B#7, 0x17#8, Instr.rawDec 0x45) ∈
        [(Instr.getMfrFault, 0x01#7, 0x03#8, Instr.flgFault 0x45), (.getMfrOcFault, 0x02#7, 0x05#8, .flgOc 0x45),
        (.getMfrNocFault, 0x03#7, 0x07#8, .flgNoc 0x45), (.getMfrStatus, 0x04#7, 0x09#8, .flgStatus 0x45),
        (.getMfrConfig1, 0x05#7, 0x0B#8, .flgConfig1 0x45), (.getMfrConfig2, 0x06#7, 0x0D#8, .flgConfig2 0x45),
        (.getMfrChipCtrl, 0x07#7, 0x0F#8, .rawDec 0x45), (.getIdacVlow, 0x08#7, 0x11#8, .sm7Dec 0x45),
        (.getIdacVhigh, 0x09#7, 0x13#8, .sm7Dec 0x45), (.getIdacSetcur, 0x0A#7, 0x15#8, .b5Dec 0x45),
        (.getMfrSsfm, 0x0B#7, 0x17#8, .rawDec 0x45)] :=
  ⟨⟨rfl, rfl⟩, by decide⟩
theorem test_witness_SpelledSettersWriteTheirRegister :
    (Instr.setIdacSetcur 0xFB, 0x0A#7, 0x14#8, b5Encode .document 0xFB) ∈
      [(Instr.setMfrChipCtrl 0xFB, 0x07#7, 0x0E#8, 0xFB#8),
        (.setIdacVlow 0xFB, 0x08#7, 0x10#8, sm7Encode .signMagnitude 0xFB),
        (.setIdacVhigh 0xFB, 0x09#7, 0x12#8, sm7Encode .signMagnitude 0xFB),
        (.setIdacSetcur 0xFB, 0x0A#7, 0x14#8, b5Encode .document 0xFB), (.setMfrSsfm 0xFB, 0x0B#7, 0x16#8, 0xFB)] := by decide
theorem test_witness_ReadFramesAreReadTransactions :
    State.reset.regtab = Config.regtab ∧ State.reset.params.failClosed = false ∧
      (Instr.rd24MfrFault 0x05 0x6A, 0x01#7) ∈
        [(Instr.rd24MfrFault 0x05 0x6A, 0x01#7), (.rd24MfrOcFault 0x05 0x6A, 0x02#7), (.rd24MfrNocFault 0x05 0x6A, 0x03#7),
        (.rd24MfrStatus 0x05 0x6A, 0x04#7), (.rd24MfrConfig1 0x05 0x6A, 0x05#7), (.rd24MfrConfig2 0x05 0x6A, 0x06#7),
        (.rd24MfrChipCtrl 0x05 0x6A, 0x07#7), (.rd24IdacVlow 0x05 0x6A, 0x08#7), (.rd24IdacVhigh 0x05 0x6A, 0x09#7),
        (.rd24IdacSetcur 0x05 0x6A, 0x0A#7), (.rd24MfrSsfm 0x05 0x6A, 0x0B#7)] := by decide
theorem test_witness_WriteFramesAreWriteTransactions :
    (Instr.wr24IdacVlow 0x45 0xC5, 0x08#7) ∈
      [(Instr.wr24MfrChipCtrl 0x45 0xC5, 0x07#7), (.wr24IdacVlow 0x45 0xC5, 0x08#7), (.wr24IdacVhigh 0x45 0xC5, 0x09#7),
        (.wr24IdacSetcur 0x45 0xC5, 0x0A#7), (.wr24MfrSsfm 0x45 0xC5, 0x0B#7)] ∧
      frameWellFormed State.reset.params (packCmd 0x08 false ++ 0x45#8 ++ 0xC5#8) = true ∧
      frameWellFormed State.reset.params (packCmd 0x08 false ++ 0x45#8 ++ 0xC4#8) = false := by decide
theorem test_witness_SetThenGetReturnsTheClampedValue :
    (withDevice [(8, 0x45)]).params = Params.hardware ∧ Memory.wf (withDevice [(8, 0x45)]).dev.mem = true ∧
      deviceHas 0x08 = true ∧ deviceHas 0x0A = true ∧ deviceHas 0x0B = true := by decide
theorem test_witness_MismatchIsReportedOncePerCall :
    ∃ t, exec (.read 0x01) (base 0x41 [0x00, 0x05, 0x6B]) = .next t ∧ checksFrame (.read 0x01) = true ∧
      t.resp.refused = false ∧ t.mismatch = true :=
  ⟨_, rfl, rfl, by decide, by decide⟩
theorem test_witness_OnlyFrameChecksWriteReceiveRegisters :
    ∃ t, exec (.write 0x08 0x45) (base 0x41 [1, 2, 3]) = .next t ∧ checksFrame (.write 0x08 0x45) = false ∧ t.chk = 0xC5 :=
  ⟨_, rfl, rfl, by decide⟩
theorem test_witness_RefusedRequestsChangeNothing :
    ∃ t, exec (.read 0x0C) State.reset = .next t ∧ t.resp.refused = true :=
  ⟨_, rfl, by decide⟩
theorem test_witness_HistoryOnlyGrowsAndConstantsStay :
    ∃ t, step ((base 0x41 [1, 2, 3]).withFetchWord 32 0x0D084500) = .next t ∧ t.hist.length = 5 :=
  ⟨_, rfl, by decide⟩
/-- A state with a listed device register, a shifted frame and a mismatch meets the invariant, and a step of it
answers a next state. -/
theorem test_witness_StepKeepsTheInvariant :
    Invariant { withDevice [(8, 0x45)] with bitcnt := 24, mismatch := true, hist := [.diag 0x01 0x05 0x6B 0x6A] } ∧
      ∃ t, step ((withDevice [(8, 0x45)]).withFetchWord 32 0x1F08FB00) = .next t :=
  ⟨⟨by decide +kernel, by decide, .inr rfl, rfl, by decide, by decide, by decide, by decide⟩, ⟨_, rfl⟩⟩
theorem test_witness_ResultsForgetTheWorkingRegisters :
    readsPec (.frameChk 0x01 0x05 0x6A) = false ∧ blankWorking (base 0x41 [7]) = blankWorking (base 0x00 [7]) ∧
      (base 0x41 [7]).pec ≠ (base 0x00 [7]).pec :=
  ⟨rfl, rfl, by decide⟩
theorem test_witness_DeviceMemoryChangesOnlyWhereWritten :
    (∃ t, exec (.setIdacVlow 0xFB) (withDevice [(9, 0x01)]) = .next t ∧ t.dev.mem = [(8, 0x45), (9, 0x01)]) ∧
      Memory.wf (withDevice [(9, 0x01)]).dev.mem = true ∧ storesTo (.setIdacVlow 0xFB) = some 0x08 ∧ storesTo .pecSeed = none :=
  ⟨⟨_, rfl, by decide⟩, by decide, rfl, rfl⟩
theorem test_witness_StuckBusAnswers :
    oracleAnswers (base 0x41 [0xFF, 0xFF, 0xFF]) 0xFF 0xFF 0xFF [] ∧ (base 0x41 []).regtab = Config.regtab :=
  ⟨⟨rfl, rfl⟩, rfl⟩

end Sys2Proof.Tests
end

section
/-! PROOFS of the scope family (spec/00_scope.md R10): what an operation answers and leaves does not depend on what
earlier operations left in the working registers.

Two states agree when they are equal once blanked (`blankWorking`). Each shared operation keeps agreement
(`Agree.xfer`, `Agree.select`, …), and each one that ends in an answer answers the same on agreeing states
(`SameAnswer`). The one place where a response looks at working registers is after they were just written from the
operands and the bytes received (`SameReceived`, `SameFrame`). -/

namespace Sys2Proof.Proofs.Scope

open Sys2Proof Sys2Proof.Machine

/-- The states differ at most in the working registers and in the last response. -/
def Agree (s t : State) : Prop := blankWorking s = blankWorking t

/-- The states answer the same and differ at most in the working registers. -/
def SameAnswer (s t : State) : Prop := s.resp = t.resp ∧ blankWorking s = blankWorking t

/-- An operation that looks at no working register (R10). -/
def ForgetsWorking (f : State → State) : Prop := ∀ s t : State, Agree s t → SameAnswer (f s) (f t)

/-- The states agree, and hold the same frame to send (R122). -/
structure SameFrame (s t : State) : Prop where
  agree : Agree s t
  cmd : s.cmd = t.cmd
  dat : s.dat = t.dat
  chk : s.chk = t.chk

/-- The states agree, and hold the same received bytes and the same outcome of their check (R124). -/
structure SameReceived (s t : State) : Prop where
  agree : Agree s t
  pec : s.pec = t.pec
  rxdata : s.rxdata = t.rxdata
  rxchk : s.rxchk = t.rxchk
  mismatch : s.mismatch = t.mismatch

section Agree
variable {s t : State}

/-! ### What agreeing states share -/

/-- What a blanked state still shows is the same in agreeing states. -/
theorem Agree.apply_eq {α : Type} (g : State → α) (hg : ∀ s, g s = g (blankWorking s)) (h : Agree s t) :
    g s = g t := by
  unfold Agree at h
  rw [hg s, hg t, h]

theorem Agree.regtab (h : Agree s t) : s.regtab = t.regtab := h.apply_eq State.regtab fun _ => rfl
theorem Agree.params (h : Agree s t) : s.params = t.params := h.apply_eq State.params fun _ => rfl
theorem Agree.flagMap (h : Agree s t) : s.flagMap = t.flagMap := h.apply_eq State.flagMap fun _ => rfl
theorem Agree.busIn (h : Agree s t) : busIn s = busIn t := h.apply_eq Machine.busIn fun _ => rfl

/-- An operation that does the same to a blanked state, as far as a blanked state shows, keeps agreement. -/
theorem Agree.map (f : State → State) (hf : ∀ s, blankWorking (f s) = blankWorking (f (blankWorking s)))
    (h : Agree s t) : Agree (f s) (f t) :=
  h.apply_eq (fun u => blankWorking (f u)) hf

/-! ### The transport keeps agreement (R45) -/

theorem Agree.select (h : Agree s t) : Agree (select s) (select t) := h.map Machine.select fun _ => rfl

theorem Agree.exchange (o i : Byte) (h : Agree s t) : Agree (exchange o i s) (exchange o i t) :=
  h.map (Machine.exchange o i) fun _ => rfl

theorem Agree.deselect (h : Agree s t) : Agree (deselect s) (deselect t) := h.map Machine.deselect fun _ => rfl

theorem advanceOracle_blankWorking (s : State) :
    advanceOracle (blankWorking s) = blankWorking (advanceOracle s) := by
  cases h : s.attached with
  | oracle => rw [advanceOracle_oracle s h, advanceOracle_oracle (blankWorking s) h]; rfl
  | reference => rw [advanceOracle_reference s h, advanceOracle_reference (blankWorking s) h]

theorem Agree.advanceOracle (h : Agree s t) : Agree (advanceOracle s) (advanceOracle t) :=
  h.map Machine.advanceOracle fun s => by rw [advanceOracle_blankWorking]; rfl

theorem Agree.xfer (o : Byte) (h : Agree s t) : Agree (xfer o s) (xfer o t) := by
  unfold Machine.xfer
  rw [h.busIn]
  exact h.advanceOracle.exchange o _

/-! ### Packing and checking write the same on agreeing states -/

theorem Agree.packWrite (a : Addr) (d : Byte) (h : Agree s t) : SameFrame (packWrite a d s) (packWrite a d t) where
  agree := h.map (Machine.packWrite a d) fun _ => rfl
  cmd := rfl
  dat := rfl
  chk := by simp [h.params]

theorem Agree.packRead (a : Addr) (h : Agree s t) : Agree (packRead a s) (packRead a t) :=
  h.map (Machine.packRead a) fun _ => rfl

theorem Agree.checkReceived (a : Addr) (d k : Byte) (h : Agree s t) :
    SameReceived (checkReceived a d k s) (checkReceived a d k t) := by
  have hcheck : readCheck s a d = readCheck t a d := by simp [readCheck, h.params]
  rw [checkReceived_eq, checkReceived_eq]
  exact
    { agree := h.map (afterCheck · a d k) fun _ => rfl
      pec := hcheck
      rxdata := rfl
      rxchk := rfl
      mismatch := congrArg (· != k) hcheck }

/-! ### The transactions (R125, R126) -/

theorem Agree.sendWrite (a : Addr) (d : Byte) (h : Agree s t) : SameFrame (sendWrite a d s) (sendWrite a d t) := by
  have hp := h.packWrite a d
  exact
    { agree := by
        unfold Machine.sendWrite
        simp only [hp.cmd, hp.dat, hp.chk]
        exact (((hp.agree.select.xfer _).xfer _).xfer _).deselect
      cmd := by simp [Machine.sendWrite]
      dat := by simp [Machine.sendWrite]
      chk := by simpa [Machine.sendWrite] using hp.chk }

theorem Agree.openRead (a : Addr) (h : Agree s t) : Agree (openRead a s) (openRead a t) :=
  (h.packRead a).select.xfer (packCmd a Config.readBit)

theorem Agree.receiveRead (a : Addr) (h : Agree s t) : SameReceived (receiveRead a s) (receiveRead a t) := by
  have h2 := h.openRead a
  have h3 := h2.xfer t.params.rdFill
  unfold Machine.receiveRead
  simp only [h.params, h2.busIn, h3.busIn]
  exact (h3.xfer _).deselect.checkReceived a _ _

theorem Agree.receiveFrame (a : Addr) (d k : Byte) (h : Agree s t) :
    SameReceived (receiveFrame a d k s) (receiveFrame a d k t) := by
  have h2 := h.openRead a
  unfold Machine.receiveFrame
  simp only [h.params]
  exact ((h2.exchange _ _).exchange _ _).deselect.checkReceived a d k

/-! ### The answers (R70, R71) -/

theorem Agree.respond (y : BitVec 24) (flag : Bool) (d : Decoded) (h : Agree s t) :
    SameAnswer (respond y flag d s) (respond y flag d t) :=
  ⟨rfl, h.map (Machine.respond y flag d) fun _ => rfl⟩

theorem Agree.refuse (h : Agree s t) : SameAnswer (refuse s) (refuse t) :=
  ⟨rfl, h.map Machine.refuse fun _ => rfl⟩

theorem SameFrame.respondWrite (h : SameFrame s t) : SameAnswer (respondWrite s) (respondWrite t) := by
  have hframe : frameToSend s = frameToSend t := by simp only [frameToSend, h.cmd, h.dat, h.chk]
  unfold Machine.respondWrite
  rw [hframe]
  exact h.agree.respond _ _ _

theorem SameReceived.respondRead (h : SameReceived s t) : SameAnswer (respondRead s) (respondRead t) := by
  unfold Machine.respondRead
  rw [h.agree.params, h.rxdata, h.rxchk, h.mismatch]
  split
  · exact h.agree.respond _ _ _
  · exact h.agree.respond _ _ _

theorem SameReceived.respondTyped (k : Kind) (h : SameReceived s t) :
    SameAnswer (respondTyped k s) (respondTyped k t) := by
  unfold Machine.respondTyped
  rw [h.agree.params, h.agree.flagMap, h.rxdata, h.mismatch]
  dsimp only
  split
  · exact h.agree.respond _ _ _
  · exact h.agree.respond _ _ _

end Agree

/-! ### The operations forget the working registers (R10) -/

/-- An operation that answers a blanked state as it answers the state itself forgets the working registers. -/
theorem forgetsWorking_of_blank {f : State → State} (hr : ∀ s, (f s).resp = (f (blankWorking s)).resp)
    (hb : ∀ s, blankWorking (f s) = blankWorking (f (blankWorking s))) : ForgetsWorking f :=
  fun _ _ h => ⟨h.apply_eq (fun u => (f u).resp) hr, h.map f hb⟩

theorem writeReg_forgets (a : Addr) (d : Byte) : ForgetsWorking (writeReg a d) := by
  intro s t h
  unfold writeReg
  rw [h.regtab]
  split
  · exact h.refuse
  · exact (h.sendWrite a d).respondWrite

theorem readReg_forgets (a : Addr) : ForgetsWorking (readReg a) := by
  intro s t h
  unfold readReg
  rw [h.regtab]
  split
  · exact h.refuse
  · exact (h.receiveRead a).respondRead

theorem getReg_forgets (a : Addr) : ForgetsWorking (getReg a) := by
  intro s t h
  unfold getReg
  rw [h.regtab]
  split
  · exact h.refuse
  · exact (h.receiveRead a).respondTyped _

theorem setReg_forgets (a : Addr) (v : Byte) : ForgetsWorking (setReg a v) := by
  intro s t h
  unfold setReg
  rw [h.regtab, h.params]
  split
  · exact h.refuse
  · split
    · exact h.refuse
    · exact (h.sendWrite a _).respondWrite

theorem readFrame_forgets (a : Addr) (d k : Byte) : ForgetsWorking (readFrame a d k) := by
  intro s t h
  unfold readFrame
  rw [h.regtab]
  split
  · exact h.refuse
  · exact (h.receiveFrame a d k).respondRead

theorem writeFrame_forgets (a : Addr) (d k : Byte) : ForgetsWorking (writeFrame a d k) := by
  intro s t h
  unfold writeFrame
  rw [h.regtab, h.params]
  split
  · exact h.refuse
  · split
    · exact (h.sendWrite a d).respondWrite
    · exact h.refuse

/-- `FRAME.CHK` answers from what it has just received and computed (R124). -/
theorem checkReceived_respond_forgets (a : Addr) (d k : Byte) :
    ForgetsWorking fun s =>
      let u := checkReceived a d k s
      respond (yPair u.pec u.rxdata) u.mismatch (.byte u.rxdata) u := by
  intro s t h
  have hu := h.checkReceived a d k
  dsimp only
  rw [hu.pec, hu.rxdata, hu.mismatch]
  exact hu.agree.respond _ _ _

/-- Every instruction but `PEC.BIT` and `PEC.BYTE` is an operation that forgets the working registers. -/
theorem exec_forgets (i : Instr) (hi : readsPec i = false) :
    ∃ f : State → State, ForgetsWorking f ∧ ∀ s, exec i s = .next (f s) := by
  cases i
  case pecBit | pecByte => cases hi
  case write => exact ⟨_, writeReg_forgets _ _, fun _ => rfl⟩
  case read => exact ⟨_, readReg_forgets _, fun _ => rfl⟩
  case frameChk a d k => exact ⟨_, checkReceived_respond_forgets a d k, fun _ => rfl⟩
  case get | getMfrFault | getMfrOcFault | getMfrNocFault | getMfrStatus | getMfrConfig1 | getMfrConfig2
    | getMfrChipCtrl | getIdacVlow | getIdacVhigh | getIdacSetcur | getMfrSsfm =>
    exact ⟨_, getReg_forgets _, fun _ => rfl⟩
  case set | setMfrChipCtrl | setIdacVlow | setIdacVhigh | setIdacSetcur | setMfrSsfm =>
    exact ⟨_, setReg_forgets _ _, fun _ => rfl⟩
  case rd24MfrFault | rd24MfrOcFault | rd24MfrNocFault | rd24MfrStatus | rd24MfrConfig1 | rd24MfrConfig2
    | rd24MfrChipCtrl | rd24IdacVlow | rd24IdacVhigh | rd24IdacSetcur | rd24MfrSsfm =>
    exact ⟨_, readFrame_forgets _ _ _, fun _ => rfl⟩
  case wr24MfrChipCtrl | wr24IdacVlow | wr24IdacVhigh | wr24IdacSetcur | wr24MfrSsfm =>
    exact ⟨_, writeFrame_forgets _ _ _, fun _ => rfl⟩
  case pecSeed | pecTbl | pecCalc | cmdPack | cmdUnpack | frameWr | frameRdcmd | sm7Dec | sm7Enc | b5Dec | b5Enc
    | rawDec | rawEnc | flgFault | flgOc | flgNoc | flgStatus | flgConfig1 | flgConfig2 =>
    refine ⟨_, ?_, fun _ => rfl⟩
    exact forgetsWorking_of_blank (fun _ => rfl) fun _ => rfl

/-- Settles O57: two runs of the same operation on agreeing states answer the same, since the operation forgets the
working registers. -/
theorem resultsForgetTheWorkingRegisters : Obligations.ResultsForgetTheWorkingRegisters := by
  intro i s t hi h
  obtain ⟨f, hf, hexec⟩ := exec_forgets i hi
  obtain ⟨hresp, hrest⟩ := hf s t h
  exact ⟨f s, f t, hexec s, hexec t, hresp, hrest⟩

end Sys2Proof.Proofs.Scope
end

section
/-! PROOFS of the state family (spec/10_state.md): what a step serves (R26), how a transaction moves the bit counter
and the history (R23, R20), which registers and constants stay (R22, R24, R27, R28), and the default `FLAG_MAP` (R29 to
R34).

The instruction statements follow from `shape_of_exec`: its six shapes are either updates that can be read off, or one
of the three transactions, of which this file first says what each leaves in the registers of R20. -/

namespace Sys2Proof.Proofs.StateFamily

open Sys2Proof Sys2Proof.Machine

/-! ### What a step serves (R26, R48) -/

/-- With nothing presented the block waits (log entry 17). -/
theorem step_of_no_request {s : State} (h : s.pending = []) : step s = .next s := by
  unfold step; rw [h]

theorem step_of_decode_ok {s : State} {p : PortItem} {rest : List PortItem} {i : Instr} (h : s.pending = p :: rest)
    (hd : decode p = .ok i) : step s = exec i { s with pending := rest } := by
  unfold step; rw [h]; dsimp only; rw [hd]

theorem step_of_decode_error {s : State} {p : PortItem} {rest : List PortItem} {e : DecodeError}
    (h : s.pending = p :: rest) (hd : decode p = .error e) :
    step s = .next (afterRefusal { s with pending := rest }) := by
  unfold step; rw [h]; dsimp only; rw [hd]; rfl

/-- What one step can do: wait, refuse bits that are no instruction, or execute the instruction they decode to. -/
inductive StepShape (s t : State) : Prop where
  | waits (idle : s.pending = []) (unchanged : t = s)
  | refuses (p : PortItem) (rest : List PortItem) (e : DecodeError) (head : s.pending = p :: rest)
      (undecoded : decode p = .error e) (refused : t = afterRefusal { s with pending := rest })
  | executes (p : PortItem) (rest : List PortItem) (i : Instr) (head : s.pending = p :: rest)
      (decoded : decode p = .ok i) (executed : exec i { s with pending := rest } = .next t)

theorem stepShape_of_step {s t : State} (h : step s = .next t) : StepShape s t := by
  cases hp : s.pending with
  | nil =>
    rw [step_of_no_request hp] at h
    cases h
    exact .waits hp rfl
  | cons p rest =>
    cases hd : decode p with
    | error e =>
      rw [step_of_decode_error hp hd] at h
      cases h
      exact .refuses p rest e hp hd rfl
    | ok i =>
      rw [step_of_decode_ok hp hd] at h
      exact .executes p rest i hp hd h

/-- The six function codes of R73 (a) are no instruction. -/
theorem decodeReq_unassigned {w : ReqWord}
    (h : Decode.fn w ∈ [0x05#5, 0x06#5, 0x07#5, 0x0F#5, 0x16#5, 0x17#5]) :
    decodeReq w = .error (.unassignedFn (Decode.fn w)) := by
  unfold decodeReq
  generalize Decode.fn w = fn at h
  simp only [List.mem_cons, List.not_mem_nil, or_false] at h
  rcases h with rfl | rfl | rfl | rfl | rfl | rfl <;> rfl

/-- Settles O1: the served request's bits decode, so the step is the execution of what they decode to. -/
theorem stepRunsDecodedInstruction : Obligations.StepRunsDecodedInstruction :=
  fun _ _ _ _ hp hd => step_of_decode_ok hp hd

/-- Settles O2: an empty queue is the waiting branch of the step, and an unassigned code is a decoding error. -/
theorem stepWaitsOrRefusesUnassignedCodes : Obligations.StepWaitsOrRefusesUnassignedCodes := by
  refine ⟨fun _ => step_of_no_request, fun s w rest hp hfn => ?_⟩
  exact step_of_decode_error hp (decodeReq_unassigned hfn)

/-! ### What the transactions leave in the registers of R20 -/

/-- The fields of the state that no operation writes: `T`, `REGTAB`, `FLAG_MAP` (R22, R28, R20), the parameters and what
is attached (log entries 13 and 12). -/
def constants (s : State) : List Byte × List RegRow × FlagMap × Params × Attachment :=
  (s.tbl, s.regtab, s.flagMap, s.params, s.attached)

theorem constants_eq_iff {s t : State} :
    constants t = constants s ↔
      t.tbl = s.tbl ∧ t.regtab = s.regtab ∧ t.flagMap = s.flagMap ∧ t.params = s.params ∧ t.attached = s.attached := by
  simp [constants]

section Transactions
variable (a : Addr) (d k : Byte) (s : State)

theorem sendWrite_constants : constants (sendWrite a d s) = constants s := by
  rw [sendWrite_eq]; rfl

theorem receiveRead_constants : constants (receiveRead a s) = constants s := by
  rw [receiveRead_eq]; rfl

theorem receiveFrame_constants : constants (receiveFrame a d k s) = constants s := by
  rw [receiveFrame_eq]; rfl

/-- A write transaction discards what it receives (R125), so it leaves the receive registers and the flag. -/
theorem sendWrite_receiveRegisters :
    (sendWrite a d s).mismatch = s.mismatch ∧ (sendWrite a d s).rxdata = s.rxdata ∧
      (sendWrite a d s).rxchk = s.rxchk := by
  rw [sendWrite_eq]
  exact ⟨rfl, rfl, rfl⟩

theorem sendWrite_bitcnt : (sendWrite a d s).bitcnt = 24 :=
  congrArg State.bitcnt (sendWrite_eq a d s)

theorem receiveRead_bitcnt : (receiveRead a s).bitcnt = 24 :=
  congrArg State.bitcnt (receiveRead_eq a s)

theorem receiveFrame_bitcnt : (receiveFrame a d k s).bitcnt = 24 :=
  congrArg State.bitcnt (receiveFrame_eq a d k s)

theorem sendWrite_hist : ∃ x y z, (sendWrite a d s).hist = s.hist ++ writeEvents s a d x y z :=
  ⟨_, _, _, congrArg State.hist (sendWrite_eq a d s)⟩

theorem receiveRead_hist : ∃ x y z, (receiveRead a s).hist = s.hist ++ readEvents s a x y z :=
  ⟨_, _, _, congrArg State.hist (receiveRead_eq a s)⟩

theorem receiveFrame_hist : ∃ x, (receiveFrame a d k s).hist = s.hist ++ readEvents s a x d k :=
  ⟨_, congrArg State.hist (receiveFrame_eq a d k s)⟩

/-! ### Which events select the device (R45) -/

theorem select_mem_writeEvents (x y z : Byte) : Event.select ∈ writeEvents s a d x y z := by
  simp [writeEvents]

theorem select_mem_readEvents (x : Byte) : Event.select ∈ readEvents s a x d k := by
  simp [readEvents]

/-- The report of a mismatch is a diagnostic, no transport event (R211). -/
theorem select_notMem_readReport : Event.select ∉ readReport s a d k := by
  unfold readReport
  split <;> simp

end Transactions

/-! ### What an instruction adds to the history, and what it keeps -/

/-- From `s` to `t` the history grows by `es`, and the bit counter stands at the end of a frame when `es` has one, else
where it stood (R23, log entry 6). -/
structure Adds (es : List Event) (s t : State) : Prop where
  hist : t.hist = s.hist ++ es
  bitcnt_of_select : Event.select ∈ es → t.bitcnt = 24
  bitcnt_of_no_select : Event.select ∉ es → t.bitcnt = s.bitcnt

/-- A transaction adds its `Select` and ends the frame. -/
theorem Adds.of_select {es : List Event} {s t : State} (hh : t.hist = s.hist ++ es) (hs : Event.select ∈ es)
    (hb : t.bitcnt = 24) : Adds es s t :=
  ⟨hh, fun _ => hb, fun hn => absurd hs hn⟩

/-- Events without a `Select` leave the bit counter. -/
theorem Adds.of_no_select {es : List Event} {s t : State} (hh : t.hist = s.hist ++ es) (hs : Event.select ∉ es)
    (hb : t.bitcnt = s.bitcnt) : Adds es s t :=
  ⟨hh, fun hn => absurd hn hs, fun _ => hb⟩

/-- Every instruction only adds events, and moves the bit counter only with a `Select`. -/
theorem exec_adds {i : Instr} {s t : State} (h : exec i s = .next t) : ∃ es, Adds es s t := by
  cases shape_of_exec h with
  | refused | pure => exact ⟨[], .of_no_select (List.append_nil _).symm List.not_mem_nil rfl⟩
  | check a d k => exact ⟨_, .of_no_select rfl (select_notMem_readReport a d k s) rfl⟩
  | write a d =>
    obtain ⟨x, y, z, hh⟩ := sendWrite_hist a d s
    exact ⟨_, .of_select hh (select_mem_writeEvents a d s x y z) (sendWrite_bitcnt a d s)⟩
  | read a =>
    obtain ⟨x, y, z, hh⟩ := receiveRead_hist a s
    exact ⟨_, .of_select hh (select_mem_readEvents a y z s x) (receiveRead_bitcnt a s)⟩
  | frame a d k =>
    obtain ⟨x, hh⟩ := receiveFrame_hist a d k s
    exact ⟨_, .of_select hh (select_mem_readEvents a d k s x) (receiveFrame_bitcnt a d k s)⟩

theorem exec_hist_prefix {i : Instr} {s t : State} (h : exec i s = .next t) : s.hist <+: t.hist := by
  obtain ⟨es, hadds⟩ := exec_adds h
  exact ⟨es, hadds.hist.symm⟩

theorem exec_constants {i : Instr} {s t : State} (h : exec i s = .next t) : constants t = constants s := by
  cases shape_of_exec h with
  | refused | pure | check => rfl
  | write a d => exact sendWrite_constants a d s
  | read a => exact receiveRead_constants a s
  | frame a d k => exact receiveFrame_constants a d k s

/-- Settles O27: the events after the old history are those the instruction adds. -/
theorem bitCounterEndsAtTwentyFour : Obligations.BitCounterEndsAtTwentyFour := by
  intro i s t h
  obtain ⟨es, hhist, hselect, hno⟩ := exec_adds h
  rw [hhist, List.drop_left]
  exact ⟨hselect, hno⟩

/-- Settles O51: an instruction that checks no frame is refused, pure, or a write transaction. -/
theorem onlyFrameChecksWriteReceiveRegisters : Obligations.OnlyFrameChecksWriteReceiveRegisters := by
  intro i s t h hi
  cases shape_of_exec h with
  | refused | pure => exact ⟨rfl, rfl, rfl⟩
  | write a d => exact sendWrite_receiveRegisters a d s
  | check _ _ _ _ _ isCheck | read _ _ _ isCheck | frame _ _ _ _ _ isCheck => cases hi.symm.trans isCheck

/-- Settles O53: a step waits, refuses, or executes, and only executing adds to the history. -/
theorem historyOnlyGrowsAndConstantsStay : Obligations.HistoryOnlyGrowsAndConstantsStay := by
  intro s t h
  rw [← constants_eq_iff]
  cases stepShape_of_step h with
  | waits _ unchanged => rw [unchanged]; exact ⟨List.prefix_rfl, rfl⟩
  | refuses _ _ _ _ _ refused => rw [refused]; exact ⟨List.prefix_rfl, rfl⟩
  | executes _ _ _ _ _ executed =>
    have hgrows := exec_hist_prefix executed
    have hconst := exec_constants executed
    exact ⟨hgrows, hconst⟩

/-! ### The default `FLAG_MAP` (R29 to R34) -/

/-- A mask of the bits a map row reports: the active-flag mask of any byte is the byte under it (R160). -/
theorem flagMask_eq_and {fm : FlagMap} {r : FlagReg} {m : Byte}
    (h : ∀ k < 8, (!isSelectorBit fm r k && (flagAt fm r k).isSome) = m.getLsbD k) (b : Byte) :
    flagMask fm r b = b &&& m := by
  refine BitVec.eq_of_getLsbD_eq fun k hk => ?_
  rw [flagMask_bit fm r b k hk, BitVec.getLsbD_and, ← h k hk, flagActive, ← Bool.and_assoc, Bool.and_comm]

/-- The thresholds rise by 10 mV, up to the last valued code (R33). -/
theorem defaultIlim_of_lt {n : Nat} (h : n < 5) :
    Config.flagMap.ilim.getD n none = some ((10 * (n + 1) : Nat) : Rat) := by
  interval_cases n <;> norm_num [Config.flagMap]

theorem defaultIlim_of_ge {n : Nat} (h : 5 ≤ n) : Config.flagMap.ilim.getD n none = none :=
  List.getD_eq_default _ _ h

theorem selectIlim_default (c : BitVec 3) :
    selectIlim Config.flagMap c =
      if c.toNat < 5 then .millivolts ((10 * (c.toNat + 1) : Nat) : Rat) else .reserved c := by
  split
  case isTrue h => exact selectIlim_of_some (defaultIlim_of_lt h)
  case isFalse h => exact selectIlim_of_none (defaultIlim_of_ge (Nat.le_of_not_lt h))

/-- Settles O42: the masks come from the map's rows bit by bit, the selectors from its two tables. -/
theorem defaultFlagMapExamples : Obligations.DefaultFlagMapExamples := by
  refine ⟨fun b => ⟨?fault, ?oc, ?noc, ?status, ?config1, ?config2⟩, by decide, selectIlim_default, ?_⟩
  case fault | oc | noc | status | config1 | config2 => exact flagMask_eq_and (by decide) b
  exact ⟨selectDrvcc_of_some rfl, selectDrvcc_of_some rfl, selectDrvcc_of_some rfl, selectDrvcc_of_none rfl⟩

end Sys2Proof.Proofs.StateFamily
end

section
/-! PROOFS of the memory family (spec/20_memory.md): what a request does to the device register space (R40, R47), what a
transaction leaves with each device attached (R46, R47), and the invariant that every step keeps.

The invariant splits into what an instruction adds to the history (whole, allowed transactions with their reports), what
it does to the device (nothing, or one store at a mapped address), and what it answers. Each part is read off the six
shapes of `shape_of_exec`. -/

namespace Sys2Proof.Proofs.MemoryFamily

open Sys2Proof Sys2Proof.Machine Sys2Proof.Proofs.StateFamily

/-! ### The storage of the device register space (R40, R47) -/

theorem eq_or_mem_of_mem_cons {m : Memory} {a : Nat} {v : Byte} {c : Host.Cell} (h : c ∈ Memory.cons a v m) :
    c = (a, v) ∨ c ∈ m := by
  unfold Memory.cons at h
  split at h
  · exact .inr h
  · exact List.mem_cons.mp h

/-- A cell of memory after a write is the cell written or was there before. -/
theorem eq_or_mem_of_mem_write {m : Memory} {a : Nat} {v : Byte} {c : Host.Cell} (h : c ∈ Memory.write m a v) :
    c = (a, v) ∨ c ∈ m := by
  induction m with
  | nil => exact eq_or_mem_of_mem_cons h
  | cons k rest ih =>
    unfold Memory.write at h
    split at h
    · exact (eq_or_mem_of_mem_cons h).imp_right (List.mem_cons_of_mem k)
    · split at h
      · exact eq_or_mem_of_mem_cons h
      · rcases List.mem_cons.mp h with rfl | hrest
        · exact .inr List.mem_cons_self
        · exact (ih hrest).imp_right (List.mem_cons_of_mem k)

/-- Every listed address is one of 0x01 to 0x0B (R40, R47). -/
def Mapped (m : Memory) : Prop := m.all (fun c => decide (1 ≤ c.1) && decide (c.1 ≤ 11)) = true

theorem mapped_iff {m : Memory} : Mapped m ↔ ∀ c ∈ m, 1 ≤ c.1 ∧ c.1 ≤ 11 := by
  simp [Mapped]

theorem deviceHas_iff {a : Addr} : deviceHas a = true ↔ 1 ≤ a.toNat ∧ a.toNat ≤ 11 := by
  simp [deviceHas, Config.regLo, Config.regHi, BitVec.le_def]

theorem Mapped.write {m : Memory} {a : Addr} (hm : Mapped m) (ha : deviceHas a = true) (v : Byte) :
    Mapped (Memory.write m a.toNat v) := by
  refine mapped_iff.mpr fun c hc => ?_
  rcases eq_or_mem_of_mem_write hc with rfl | hold
  · exact deviceHas_iff.mp ha
  · exact mapped_iff.mp hm c hold

/-! ### What an instruction does to the device (R47) -/

/-- The device stays as it was, or only ends its frame, or ends its frame and stores a byte at the address of the write
transaction that `i` is. -/
inductive DeviceStep (i : Instr) (d : RefDevice) : RefDevice → Prop where
  | untouched : DeviceStep i d d
  | idle : DeviceStep i d ⟨d.mem, []⟩
  | stores (a : Addr) (v : Byte) (target : storesTo i = some a) (mapped : deviceHas a = true) :
      DeviceStep i d ⟨Memory.write d.mem a.toNat v, []⟩

theorem sendWrite_deviceStep {i : Instr} {a : Addr} (d : Byte) (s : State) (hi : storesTo i = some a) :
    DeviceStep i s.dev (sendWrite a d s).dev := by
  cases h : s.attached with
  | oracle => rw [sendWrite_dev_oracle a d s h]; exact .untouched
  | reference =>
    rw [sendWrite_dev a d s h]
    split
    · rename_i hc
      exact .stores a d hi (Bool.and_eq_true_iff.mp hc).1
    · exact .idle

theorem receiveRead_deviceStep (i : Instr) (a : Addr) (s : State) : DeviceStep i s.dev (receiveRead a s).dev := by
  cases h : s.attached with
  | oracle => rw [receiveRead_dev_oracle a s h]; exact .untouched
  | reference => rw [receiveRead_dev a s h]; exact .idle

theorem receiveFrame_deviceStep (i : Instr) (a : Addr) (d k : Byte) (s : State) :
    DeviceStep i s.dev (receiveFrame a d k s).dev := by
  cases h : s.attached with
  | oracle => rw [receiveFrame_dev_oracle a d k s h]; exact .untouched
  | reference => rw [receiveFrame_dev a d k s h]; exact .idle

theorem exec_deviceStep {i : Instr} {s t : State} (h : exec i s = .next t) : DeviceStep i s.dev t.dev := by
  cases shape_of_exec h with
  | refused | pure | check => exact .untouched
  | write a d _ _ _ stores => exact sendWrite_deviceStep d s stores
  | read a => exact receiveRead_deviceStep i a s
  | frame a d k => exact receiveFrame_deviceStep i a d k s

theorem DeviceStep.read_of_ne {i : Instr} {d d' : RefDevice} {a : Nat} (h : DeviceStep i d d')
    (hwf : Memory.wf d.mem = true) (ha : ∀ w, storesTo i = some w → w.toNat ≠ a) :
    Memory.read d'.mem a = Memory.read d.mem a := by
  cases h with
  | untouched | idle => rfl
  | stores w v target => rw [memory_read_write d.mem 0 w.toNat a v hwf, if_neg (ha w target)]

/-- Settles O58: the only change an instruction makes to the device's memory is a store at the address of its write
transaction, which leaves every other byte. -/
theorem deviceMemoryChangesOnlyWhereWritten : Obligations.DeviceMemoryChangesOnlyWhereWritten :=
  fun _ _ _ _ h hwf ha => (exec_deviceStep h).read_of_ne hwf ha

/-- No frame is under way in the device, and its memory is canonical and holds only mapped addresses. -/
structure DeviceOk (d : RefDevice) : Prop where
  idle : d.seen = []
  wf : Memory.wf d.mem = true
  mapped : Mapped d.mem

theorem DeviceStep.keeps_ok {i : Instr} {d d' : RefDevice} (h : DeviceStep i d d') (hd : DeviceOk d) : DeviceOk d' := by
  cases h with
  | untouched => exact hd
  | idle => exact ⟨rfl, hd.wf, hd.mapped⟩
  | stores a v _ mapped => exact ⟨rfl, memory_wf_write _ _ _ hd.wf, hd.mapped.write mapped v⟩

/-! ### What a transaction leaves with each device attached (R46, R47) -/

theorem exec_write_of_writable {s : State} {a : Addr} (h : (findWritable s.regtab a).isSome = true) (d : Byte) :
    exec (.write a d) s = .next (respondWrite (sendWrite a d s)) := by
  obtain ⟨row, hrow⟩ := Option.isSome_iff_exists.mp h
  change Host.Outcome.next (writeReg a d s) = _
  rw [writeReg, hrow]

theorem exec_read_of_known {s : State} {a : Addr} (h : (findReg s.regtab a).isSome = true) :
    exec (.read a) s = .next (respondRead (receiveRead a s)) := by
  obtain ⟨row, hrow⟩ := Option.isSome_iff_exists.mp h
  change Host.Outcome.next (readReg a s) = _
  rw [readReg, hrow]

/-- A read answers both received bytes unless it withholds the data (R71, R128). -/
theorem respondRead_of_not_withheld {s : State} (h : (s.params.failClosed && s.mismatch) = false) :
    respondRead s = respond (yPair s.rxchk s.rxdata) s.mismatch (.byte s.rxdata) s := by
  rw [respondRead, h]
  exact if_neg Bool.false_ne_true

/-- Settles O28: the transactions of R125 and R126 with the oracle's three answers, and the response of each. -/
theorem transactionsTakeAnyOracleAnswer : Obligations.TransactionsTakeAnyOracleAnswer := by
  intro s a d x y z rest h
  refine ⟨fun hw => ?_, fun hr hopen => ?_⟩
  · rw [exec_write_of_writable hw, sendWrite_oracle a d x y z rest s h]
    rfl
  · have hgiven : ((tookThree (afterRead s a x y z) rest).params.failClosed &&
        (tookThree (afterRead s a x y z) rest).mismatch) = false := by simp [tookThree, afterRead, hopen]
    rw [exec_read_of_known hr, receiveRead_oracle a x y z rest s h, respondRead_of_not_withheld hgiven]
    rfl

/-- Settles O29: the write commits at `Deselect`; the read's check byte is the one the block computes, so no data is
withheld whatever `FAIL_CLOSED` is. -/
theorem referenceDeviceStoresAndAnswers : Obligations.ReferenceDeviceStoresAndAnswers := by
  intro s a d h ha
  refine ⟨fun hw => ?_, fun hr => ?_⟩
  · have hstored : (deviceHas a && (findWritable s.regtab a).isSome) = true := Bool.and_eq_true_iff.mpr ⟨ha, hw⟩
    rw [exec_write_of_writable hw, sendWrite_reference a d s h, if_pos hstored]
    rfl
  · have hmatch : (receiveRead a s).mismatch = false := by
      rw [receiveRead_reference a s h ha]
      exact bne_self_eq_false _
    rw [exec_read_of_known hr, respondRead_of_not_withheld (by rw [hmatch, Bool.and_false]), hmatch,
      receiveRead_reference a s h ha]
    rfl

/-! ### Histories that may stand (R45, R127, R211) -/

section History
variable (P : Params) (tab : List RegRow)

/-- An allowed history goes on with any allowed history: the report of a wrong read stays its next event. -/
theorem historyAllowed_append {h es : List Event} (hh : historyAllowed P tab h = true)
    (he : historyAllowed P tab es = true) : historyAllowed P tab (h ++ es) = true := by
  fun_induction historyAllowed P tab h with
  | case1 => exact he
  | case2 a d k c rest ih =>
    obtain ⟨hdiag, hrest⟩ := Bool.and_eq_true_iff.mp hh
    exact Bool.and_eq_true_iff.mpr ⟨hdiag, ih hrest⟩
  | case3 cmd x o2 i2 o3 i3 rest ih =>
    simp only [historyAllowed, Bool.and_eq_true, Bool.or_eq_true, List.cons_append] at hh ⊢
    obtain ⟨hframe, hreport, hrest⟩ := hh
    refine ⟨hframe, hreport.imp_right fun hdiag => ?_, ih hrest⟩
    rw [beq_iff_eq] at hdiag ⊢
    rw [List.head?_append, hdiag, Option.some_or]
  | case4 => cases hh

/-- A report's computed check byte is right and differs from the one received (R211). -/
theorem readReport_allowed (s : State) (a : Addr) (d k : Byte) :
    historyAllowed s.params tab (readReport s a d k) = true := by
  unfold readReport
  split
  · rfl
  · rename_i hne
    simpa [historyAllowed, diagAllowed, readCheck] using hne

/-- A read whose check byte is wrong has its diagnostic right behind it (R62, R126). -/
theorem readReport_head? (s : State) (a : Addr) (d k : Byte) :
    readCheck s a d = k ∨ (readReport s a d k).head? = some (.diag a d k (readCheck s a d)) := by
  unfold readReport
  split
  · exact .inl ‹_›
  · exact .inr rfl

end History

section Events
variable {s : State} {a : Addr}

theorem readEvents_allowed (hr : (findReg s.regtab a).isSome = true) (x d k : Byte) :
    historyAllowed s.params s.regtab (readEvents s a x d k) = true := by
  have hreport := readReport_head? s a d k
  simpa [readEvents, historyAllowed, frameAllowed, readCheck, Config.readBit, hr, readReport_allowed] using hreport

theorem findReg_of_writable (hw : (findWritable s.regtab a).isSome = true) : (findReg s.regtab a).isSome = true := by
  simp only [findWritable, Option.isSome_filter] at hw
  exact Option.isSome_of_any hw

theorem writeEvents_allowed (hw : (findWritable s.regtab a).isSome = true) (d x y z : Byte) :
    historyAllowed s.params s.regtab (writeEvents s a d x y z) = true := by
  simp [writeEvents, historyAllowed, frameAllowed, Config.writeBit, hw, findReg_of_writable hw, writeCheck]

end Events

/-- Every instruction adds whole, allowed transactions and true diagnostics to the history. -/
theorem exec_addsAllowed {i : Instr} {s t : State} (h : exec i s = .next t) :
    ∃ es, t.hist = s.hist ++ es ∧ historyAllowed s.params s.regtab es = true := by
  cases shape_of_exec h with
  | refused | pure => exact ⟨[], (List.append_nil _).symm, rfl⟩
  | check a d k => exact ⟨_, rfl, readReport_allowed s.regtab s a d k⟩
  | write a d _ _ _ _ writable =>
    obtain ⟨x, y, z, hh⟩ := sendWrite_hist a d s
    exact ⟨_, hh, writeEvents_allowed writable d x y z⟩
  | read a _ _ _ _ known =>
    obtain ⟨x, y, z, hh⟩ := receiveRead_hist a s
    exact ⟨_, hh, readEvents_allowed known x y z⟩
  | frame a d k _ _ _ _ known =>
    obtain ⟨x, hh⟩ := receiveFrame_hist a d k s
    exact ⟨_, hh, readEvents_allowed known x d k⟩

/-! ### What an instruction answers (R70, R71) -/

/-- The two clauses of the invariant about the response: a refusal carries nothing else, and `flag` is `MISMATCH`. -/
structure ResponseOk (s : State) : Prop where
  refused : s.resp.refused = true → s.resp.y = 0 ∧ s.resp.flag = false ∧ s.resp.decoded = .nothing
  flag : s.resp.flag = true → s.mismatch = true

theorem afterRefusal_responseOk (s : State) : ResponseOk (afterRefusal s) :=
  ⟨fun _ => ⟨rfl, rfl, rfl⟩, (nomatch ·)⟩

theorem exec_responseOk {i : Instr} {s t : State} (h : exec i s = .next t) : ResponseOk t := by
  cases shape_of_exec h with
  | refused => exact afterRefusal_responseOk s
  | pure | write => exact ⟨(nomatch ·), (nomatch ·)⟩
  | check | read | frame => exact ⟨(nomatch ·), id⟩

/-! ### The invariant -/

theorem invariant_iff {s : State} :
    Invariant s ↔ s.tbl = pecTableOf s.params ∧ historyAllowed s.params s.regtab s.hist = true ∧
      (s.bitcnt = 0 ∨ s.bitcnt = 24) ∧ DeviceOk s.dev ∧ ResponseOk s :=
  ⟨fun h => ⟨h.tableIsT, h.history, h.frameDone, ⟨h.deviceIdle, h.memoryWf, h.memoryMapped⟩,
      ⟨h.refusedIsBare, h.flagIsMismatch⟩⟩,
    fun ⟨htable, hhist, hframe, hdev, hresp⟩ =>
      ⟨htable, hhist, hframe, hdev.idle, hdev.wf, hdev.mapped, hresp.refused, hresp.flag⟩⟩

theorem exec_frameDone {i : Instr} {s t : State} (h : exec i s = .next t) (hs : s.bitcnt = 0 ∨ s.bitcnt = 24) :
    t.bitcnt = 0 ∨ t.bitcnt = 24 := by
  obtain ⟨es, hadds⟩ := exec_adds h
  by_cases hsel : Event.select ∈ es
  · exact .inr (hadds.bitcnt_of_select hsel)
  · rwa [hadds.bitcnt_of_no_select hsel]

theorem exec_keepsInvariant {i : Instr} {s t : State} (h : exec i s = .next t) (hs : Invariant s) : Invariant t := by
  obtain ⟨htable, hhist, hframe, hdev, _⟩ := invariant_iff.mp hs
  obtain ⟨htbl, hregtab, -, hparams, -⟩ := constants_eq_iff.mp (exec_constants h)
  obtain ⟨es, hes, hallowed⟩ := exec_addsAllowed h
  refine invariant_iff.mpr ⟨?table, ?history, exec_frameDone h hframe, ?device, exec_responseOk h⟩
  case table => rw [htbl, hparams, htable]
  case history => rw [hparams, hregtab, hes]; exact historyAllowed_append _ _ hhist hallowed
  case device => exact (exec_deviceStep h).keeps_ok hdev

/-- Taking a request off the queue and refusing it changes no field of the invariant but the response. -/
theorem invariant_afterRefusal {s : State} (hs : Invariant s) (rest : List PortItem) :
    Invariant (afterRefusal { s with pending := rest }) :=
  { hs with
    refusedIsBare := (afterRefusal_responseOk _).refused
    flagIsMismatch := (afterRefusal_responseOk _).flag }

/-- Settles O54: a step waits, refuses, or executes, and executing keeps each part of the invariant. -/
theorem stepKeepsTheInvariant : Obligations.StepKeepsTheInvariant := by
  intro s t hs h
  cases stepShape_of_step h with
  | waits _ unchanged => rwa [unchanged]
  | refuses _ rest _ _ _ refused => rw [refused]; exact invariant_afterRefusal hs rest
  | executes _ rest _ _ _ executed => exact exec_keepsInvariant executed { hs with }

end Sys2Proof.Proofs.MemoryFamily
end

section
/-! PROOFS of the encoding family (spec/30_encoding.md): the decoder and the encoder agree (R61, R62, R70 to R72), what
decodes lies in its row of the opcode table, and what the requests that R73 refuses leave.

A request is the four fields of R70 and a frame the three of R61 (`mkReq_fields`, `mkFrame_fields`), so the rows' patterns
are statements about fields. The only words with two rows are those of the generic `GET` and `SET` at a spelled address
(log entry 8): what `spellGet` and `spellSet` answer there is said once, and the statements cite it. -/

namespace Sys2Proof.Proofs.EncodingFamily

open Sys2Proof Sys2Proof.Machine Sys2Proof.Laws Sys2Proof.Proofs.StateFamily Sys2Proof.Proofs.MemoryFamily

/-! ### The spelled rows (R72, log entry 8)

In a split of `spellGet` the last arm, `h_12`, is the generic row; in one of `spellSet` it is `h_6`. -/

theorem get_wellFormed_iff {a : Addr} : (Instr.get a).wellFormed = true ↔ ¬ (1 ≤ a.toNat ∧ a.toNat ≤ 11) := by
  simp only [Instr.wellFormed, Bool.not_eq_true', ← Bool.not_eq_true, Bool.and_eq_true, decide_eq_true_eq]
  rfl

theorem set_wellFormed_iff {a : Addr} {v : Byte} :
    (Instr.set a v).wellFormed = true ↔ ¬ (7 ≤ a.toNat ∧ a.toNat ≤ 11) := by
  simp only [Instr.wellFormed, Bool.not_eq_true', ← Bool.not_eq_true, Bool.and_eq_true, decide_eq_true_eq]
  rfl

theorem spellGet_wellFormed (a : Addr) : (spellGet a).wellFormed = true := by
  unfold spellGet
  split
  case h_12 => simp only [get_wellFormed_iff, BitVec.toNat_eq, BitVec.toNat_ofNat, imp_false] at *; omega
  all_goals rfl

theorem spellSet_wellFormed (a : Addr) (v : Byte) : (spellSet a v).wellFormed = true := by
  unfold spellSet
  split
  case h_6 => simp only [set_wellFormed_iff, BitVec.toNat_eq, BitVec.toNat_ofNat, imp_false] at *; omega
  all_goals rfl

/-- A generic `GET` is its own spelling unless its address has a row of its own. -/
theorem get_wellFormed_iff_spellGet (a : Addr) : (Instr.get a).wellFormed = true ↔ spellGet a = .get a := by
  refine ⟨fun h => ?_, fun h => h ▸ spellGet_wellFormed a⟩
  unfold spellGet
  split
  case h_12 => rfl
  all_goals cases h

theorem set_wellFormed_iff_spellSet (a : Addr) (v : Byte) :
    (Instr.set a v).wellFormed = true ↔ spellSet a v = .set a v := by
  refine ⟨fun h => ?_, fun h => h ▸ spellSet_wellFormed a v⟩
  unfold spellSet
  split
  case h_6 => rfl
  all_goals cases h

theorem wellFormed_iff_spelled (i : Instr) : i.wellFormed = true ↔ i.spelled = i := by
  cases i
  case get a => exact get_wellFormed_iff_spellGet a
  case set a v => exact set_wellFormed_iff_spellSet a v
  all_goals exact iff_of_true rfl rfl

/-! ### Decoding what was encoded (R61, R62, R71) -/

/-- The decoder reads back the function code or command byte, and each operand field, that the encoder wrote; only a
generic `GET` or `SET` comes back under another name. -/
theorem decode_encode (i : Instr) : decode (encode i) = .ok i.spelled := by
  cases i
  case rd24MfrFault | rd24MfrOcFault | rd24MfrNocFault | rd24MfrStatus | rd24MfrConfig1 | rd24MfrConfig2
    | rd24MfrChipCtrl | rd24IdacVlow | rd24IdacVhigh | rd24IdacSetcur | rd24MfrSsfm
    | wr24MfrChipCtrl | wr24IdacVlow | wr24IdacVhigh | wr24IdacSetcur | wr24MfrSsfm =>
    simp [encode, decode, decodeFrame, Instr.spelled]
  case getMfrFault | getMfrOcFault | getMfrNocFault | getMfrStatus | getMfrConfig1 | getMfrConfig2 | getMfrChipCtrl
    | getIdacVlow | getIdacVhigh | getIdacSetcur | getMfrSsfm =>
    simp [encode, decode, decodeReq, Instr.spelled, spellGet]
  case setMfrChipCtrl | setIdacVlow | setIdacVhigh | setIdacSetcur | setMfrSsfm =>
    simp [encode, decode, decodeReq, Instr.spelled, spellSet]
  all_goals simp [encode, decode, decodeReq, Instr.spelled]

/-- Settles O3: a well-formed instruction is its own spelled row. -/
theorem decodeInvertsEncode : Obligations.DecodeInvertsEncode := by
  refine ⟨fun i hi => ?_, decode_encode, wellFormed_iff_spelled⟩
  rw [decode_encode, (wellFormed_iff_spelled i).mp hi]

/-! ### A word is its fields (R70, R61) -/

theorem mkReq_fields (w : ReqWord) :
    Decode.mkReq (Decode.fn w) (Decode.opA w) (Decode.opB w) (Decode.opC w) = w := by
  refine BitVec.eq_of_getLsbD_eq fun k hk => ?_
  simp only [getLsbD_mkReq, Decode.fn, Decode.opA, Decode.opB, Decode.opC, BitVec.getLsbD_extractLsb']
  split_ifs
  all_goals
    rw [decide_eq_true (by omega), Bool.true_and]
    congr 1
    omega

theorem mkFrame_fields (f : FrameWord) :
    Decode.mkFrame (Decode.frameCmd f) (Decode.frameData f) (Decode.frameCheck f) = f := by
  refine BitVec.eq_of_getLsbD_eq fun k hk => ?_
  simp only [getLsbD_mkFrame, Decode.frameCmd, Decode.frameData, Decode.frameCheck, BitVec.getLsbD_extractLsb']
  split_ifs
  all_goals
    rw [decide_eq_true (by omega), Bool.true_and]
    congr 1
    omega

/-- The operand byte `a` without the bit that an address ignores is its address (R70, R71). -/
theorem opA_and_addrMask (w : ReqWord) : Decode.opA w &&& 0x7F = Decode.addrByte (Decode.addrA w) := by
  refine BitVec.eq_of_getLsbD_eq fun k hk => ?_
  simp only [Decode.opA, Decode.addrA, Decode.addrByte, BitVec.getLsbD_and, BitVec.getLsbD_extractLsb',
    BitVec.getLsbD_setWidth]
  interval_cases k <;> simp

/-! ### What decodes lies in its row (R71, R72)

In a split of `decodeReq` the arms `h_25` and `h_26` are `GET` and `SET`, which `spellGet` and `spellSet` go on to name,
and `h_27` is the unassigned codes; in one of `decodeFrame`, `h_17` is the frames outside the table. -/

theorem covers_of_fn {w : ReqWord} {code : BitVec 5} (h : Decode.fn w = code) :
    Row.covers (.fn29 (Decode.mkReq code 0#8 0#8 0#8) 0x1F000000) (.req w) = true := by
  have hcovers := covers_fn (Decode.fn w) (Decode.opA w) (Decode.opB w) (Decode.opC w)
  rwa [mkReq_fields, h] at hcovers

theorem covers_of_fn_addr {w : ReqWord} {code : BitVec 5} {a : Addr} (h : Decode.fn w = code)
    (ha : Decode.addrA w = a) :
    Row.covers (.fn29 (Decode.mkReq code (Decode.addrByte a) 0#8 0#8) 0x1F7F0000) (.req w) = true := by
  have hcovers := covers_fn_addr (Decode.fn w) (Decode.opA w) (Decode.opB w) (Decode.opC w)
  rwa [mkReq_fields, opA_and_addrMask, h, ha] at hcovers

theorem covers_of_frameCmd {f : FrameWord} {cmd : Byte} (h : Decode.frameCmd f = cmd) :
    Row.covers (.frame24 (Decode.mkFrame cmd 0#8 0#8) 0xFF0000) (.wire f) = true := by
  have hcovers := covers_cmd (Decode.frameCmd f) (Decode.frameData f) (Decode.frameCheck f)
  rwa [mkFrame_fields, h] at hcovers

theorem spellGet_covers {w : ReqWord} (h : Decode.fn w = 0x1E#5) :
    (spellGet (Decode.addrA w)).row.covers (.req w) = true := by
  unfold spellGet
  split
  case h_12 => exact covers_of_fn h
  all_goals next ha => exact covers_of_fn_addr h ha

theorem spellSet_covers {w : ReqWord} (h : Decode.fn w = 0x1F#5) (v : Byte) :
    (spellSet (Decode.addrA w) v).row.covers (.req w) = true := by
  unfold spellSet
  split
  case h_6 => exact covers_of_fn h
  all_goals next ha => exact covers_of_fn_addr h ha

theorem decodeReq_row {w : ReqWord} {i : Instr} (h : decodeReq w = .ok i) :
    i.wellFormed = true ∧ i.row.covers (.req w) = true := by
  unfold decodeReq at h
  split at h
  case h_25 hfn => cases h; exact ⟨spellGet_wellFormed _, spellGet_covers hfn⟩
  case h_26 hfn => cases h; exact ⟨spellSet_wellFormed _ _, spellSet_covers hfn _⟩
  case h_27 => cases h
  all_goals next hfn => cases h; exact ⟨rfl, covers_of_fn hfn⟩

theorem decodeFrame_row {f : FrameWord} {i : Instr} (h : decodeFrame f = .ok i) :
    i.wellFormed = true ∧ i.row.covers (.wire f) = true := by
  unfold decodeFrame at h
  split at h
  case h_17 => cases h
  all_goals next hcmd => cases h; exact ⟨rfl, covers_of_frameCmd hcmd⟩

/-- Settles O4: the decoder's arm fixes the function code, the address of a spelled row, or the command byte. -/
theorem decodedWordLiesInItsRow : Obligations.DecodedWordLiesInItsRow := by
  intro p i h
  cases p with
  | req w => exact decodeReq_row h
  | wire f => exact decodeFrame_row h

/-! ### Which words decode (R72, R73 (a)) -/

/-- A function code that is not one of R73's six is assigned. -/
theorem decodeReq_assigned {w : ReqWord}
    (h : Decode.fn w ∉ [0x05#5, 0x06#5, 0x07#5, 0x0F#5, 0x16#5, 0x17#5]) : ∃ i, decodeReq w = .ok i := by
  unfold decodeReq
  split
  case h_27 =>
    simp only [List.mem_cons, List.not_mem_nil, or_false, BitVec.toNat_eq, BitVec.toNat_ofNat, imp_false] at *
    omega
  all_goals exact ⟨_, rfl⟩

/-- A command byte is its address and its direction bit (R68, R121). -/
theorem packCmd_fields (c : Byte) : packCmd (cmdAddr c) (cmdDir c) = c := by
  refine BitVec.eq_of_getLsbD_eq fun k hk => ?_
  interval_cases k <;> simp [packCmd, cmdAddr, cmdDir]

/-- A command byte of a frame in the table: a read of a register of the default `REGTAB`, or a write of a read-write one
(R72). -/
def InFrameTable (c : Byte) : Prop :=
  if cmdDir c then (findReg Config.regtab (cmdAddr c)).isSome = true
  else (findWritable Config.regtab (cmdAddr c)).isSome = true

theorem mem_and_addr_of_findReg {tab : List RegRow} {a : Addr} {r : RegRow} (h : findReg tab a = some r) :
    r ∈ tab ∧ r.addr = a := by
  unfold findReg at h
  exact ⟨List.mem_of_find?_eq_some h, by simpa using List.find?_some h⟩

theorem addr_mem_of_known {tab : List RegRow} {a : Addr} (h : (findReg tab a).isSome = true) :
    a ∈ tab.map RegRow.addr := by
  obtain ⟨r, hr⟩ := Option.isSome_iff_exists.mp h
  exact List.mem_map.mpr ⟨r, mem_and_addr_of_findReg hr⟩

theorem addr_mem_of_writable {tab : List RegRow} {a : Addr} (h : (findWritable tab a).isSome = true) :
    a ∈ (tab.filter (·.access == .readWrite)).map RegRow.addr := by
  obtain ⟨r, hr⟩ := Option.isSome_iff_exists.mp h
  obtain ⟨hfind, haccess⟩ := Option.filter_eq_some_iff.mp hr
  obtain ⟨hmem, haddr⟩ := mem_and_addr_of_findReg hfind
  exact List.mem_map.mpr ⟨r, List.mem_filter.mpr ⟨hmem, haccess⟩, haddr⟩

/-- A read command byte of each register of the default `REGTAB` has an arm. -/
theorem decodeFrame_of_known {f : FrameWord} {a : Addr} (ha : (findReg Config.regtab a).isSome = true)
    (hf : Decode.frameCmd f = packCmd a true) : ∃ i, decodeFrame f = .ok i := by
  have hmem : a ∈ [0x01#7, 0x02#7, 0x03#7, 0x04#7, 0x05#7, 0x06#7, 0x07#7, 0x08#7, 0x09#7, 0x0A#7, 0x0B#7] :=
    addr_mem_of_known ha
  simp only [List.mem_cons, List.not_mem_nil, or_false] at hmem
  unfold decodeFrame
  rw [hf]
  rcases hmem with rfl | rfl | rfl | rfl | rfl | rfl | rfl | rfl | rfl | rfl | rfl
  all_goals exact ⟨_, rfl⟩

/-- A write command byte of each read-write register of the default `REGTAB` has an arm. -/
theorem decodeFrame_of_writable {f : FrameWord} {a : Addr} (ha : (findWritable Config.regtab a).isSome = true)
    (hf : Decode.frameCmd f = packCmd a false) : ∃ i, decodeFrame f = .ok i := by
  have hmem : a ∈ [0x07#7, 0x08#7, 0x09#7, 0x0A#7, 0x0B#7] := addr_mem_of_writable ha
  simp only [List.mem_cons, List.not_mem_nil, or_false] at hmem
  unfold decodeFrame
  rw [hf]
  rcases hmem with rfl | rfl | rfl | rfl | rfl
  all_goals exact ⟨_, rfl⟩

theorem decodeFrame_inFrameTable {f : FrameWord} {i : Instr} (h : decodeFrame f = .ok i) :
    InFrameTable (Decode.frameCmd f) := by
  unfold decodeFrame at h
  split at h
  case h_17 => cases h
  all_goals next hcmd => rw [hcmd]; exact rfl

theorem decodeFrame_of_inFrameTable {f : FrameWord} (h : InFrameTable (Decode.frameCmd f)) :
    ∃ i, decodeFrame f = .ok i := by
  have hcmd := (packCmd_fields (Decode.frameCmd f)).symm
  unfold InFrameTable at h
  split at h
  case isTrue hdir => rw [hdir] at hcmd; exact decodeFrame_of_known h hcmd
  case isFalse hdir => rw [Bool.eq_false_of_not_eq_true hdir] at hcmd; exact decodeFrame_of_writable h hcmd

/-- Settles O5: a request's arm is chosen by its function code, a frame's by its command byte. -/
theorem decoderAcceptsExactlyTheTable : Obligations.DecoderAcceptsExactlyTheTable := by
  refine ⟨fun w => ⟨fun ⟨i, h⟩ hfn => ?_, decodeReq_assigned⟩, fun f => ?_⟩
  · exact nomatch h.symm.trans (decodeReq_unassigned hfn)
  · exact ⟨fun ⟨i, h⟩ => decodeFrame_inFrameTable h, decodeFrame_of_inFrameTable⟩

/-! ### The bits a decoded instruction names (R70, R71) -/

section NamedBits
variable {m w w' : ReqWord}

/-- Words that agree on the bits of `m` agree on a field that `m` covers. -/
theorem extractLsb'_eq_of_and_eq (h : w' &&& m = w &&& m) {lo len : Nat}
    (hm : m.extractLsb' lo len = BitVec.allOnes len) : w'.extractLsb' lo len = w.extractLsb' lo len := by
  have hx := congrArg (BitVec.extractLsb' lo len) h
  rwa [BitVec.extractLsb'_and, BitVec.extractLsb'_and, hm, BitVec.and_allOnes, BitVec.and_allOnes] at hx

theorem getLsbD_eq_of_and_eq (h : w' &&& m = w &&& m) {k : Nat} (hm : m.getLsbD k = true) :
    w'.getLsbD k = w.getLsbD k := by
  have hx := congrArg (BitVec.getLsbD · k) h
  simpa [hm] using hx

theorem fn_congr (h : w' &&& m = w &&& m) : m.extractLsb' 24 5 = 0x1F#5 → Decode.fn w' = Decode.fn w :=
  extractLsb'_eq_of_and_eq h

theorem opA_congr (h : w' &&& m = w &&& m) : m.extractLsb' 16 8 = 0xFF#8 → Decode.opA w' = Decode.opA w :=
  extractLsb'_eq_of_and_eq h

theorem opB_congr (h : w' &&& m = w &&& m) : m.extractLsb' 8 8 = 0xFF#8 → Decode.opB w' = Decode.opB w :=
  extractLsb'_eq_of_and_eq h

theorem opC_congr (h : w' &&& m = w &&& m) : m.extractLsb' 0 8 = 0xFF#8 → Decode.opC w' = Decode.opC w :=
  extractLsb'_eq_of_and_eq h

theorem addrA_congr (h : w' &&& m = w &&& m) : m.extractLsb' 16 7 = 0x7F#7 → Decode.addrA w' = Decode.addrA w :=
  extractLsb'_eq_of_and_eq h

theorem bitA_congr (h : w' &&& m = w &&& m) : m.getLsbD 16 = true → Decode.bitA w' = Decode.bitA w :=
  getLsbD_eq_of_and_eq h

theorem bitB_congr (h : w' &&& m = w &&& m) : m.getLsbD 8 = true → Decode.bitB w' = Decode.bitB w :=
  getLsbD_eq_of_and_eq h

theorem namedBits_spellGet (a : Addr) : namedBits (spellGet a) = 0x1F7F0000 := by
  unfold spellGet
  split <;> rfl

theorem namedBits_spellSet (a : Addr) (v : Byte) : namedBits (spellSet a v) = 0x1F7FFF00 := by
  unfold spellSet
  split <;> rfl

/-- Each arm's instruction names `fn` and every field that the arm takes an operand from. -/
theorem decodeReq_congr {i : Instr} (h : decodeReq w = .ok i) (hb : w' &&& namedBits i = w &&& namedBits i) :
    decodeReq w' = .ok i := by
  unfold decodeReq at h
  split at h
  case h_25 hfn =>
    obtain rfl := Except.ok.inj h
    rw [namedBits_spellGet] at hb
    simp [decodeReq, (fn_congr hb rfl).trans hfn, addrA_congr hb]
  case h_26 hfn =>
    obtain rfl := Except.ok.inj h
    rw [namedBits_spellSet] at hb
    simp [decodeReq, (fn_congr hb rfl).trans hfn, addrA_congr hb, opB_congr hb]
  case h_27 => cases h
  all_goals next hfn =>
    obtain rfl := Except.ok.inj h
    unfold namedBits at hb
    dsimp only at hb
    simp [decodeReq, (fn_congr hb rfl).trans hfn, opA_congr hb, opB_congr hb, opC_congr hb, addrA_congr hb,
      bitA_congr hb, bitB_congr hb]

end NamedBits

/-- Settles O6: the arm is chosen by the function code, and its operands are fields of the bits it names. -/
theorem decoderIgnoresUnnamedBits : Obligations.DecoderIgnoresUnnamedBits :=
  fun _ _ _ h hb => decodeReq_congr h hb

/-! ### What the spelled rows mean (R72, R75) -/

theorem exec_spellGet (a : Addr) (s : State) : exec (spellGet a) s = .next (getReg a s) := by
  unfold spellGet
  split <;> rfl

theorem exec_spellSet (a : Addr) (v : Byte) (s : State) : exec (spellSet a v) s = .next (setReg a v s) := by
  unfold spellSet
  split <;> rfl

/-- Settles O7: each spelled arm reads or writes its own address, as the generic one does. -/
theorem spelledRowsMeanTheGenericOperation : Obligations.SpelledRowsMeanTheGenericOperation := by
  intro i s
  cases i
  case get a => exact exec_spellGet a s
  case set a v => exact exec_spellSet a v s
  all_goals rfl

/-! ### The wire frames as transactions (R61, R62; log entry 7) -/

theorem wire_mkFrame {c c' : Byte} (h : c = c') (d k : Byte) :
    PortItem.wire (Decode.mkFrame c d k) = .wire (c' ++ d ++ k) := by
  rw [h]; rfl

theorem readFrame_of_known {s : State} {a : Addr} (hk : (findReg s.regtab a).isSome = true) (d k : Byte) :
    readFrame a d k s = respondRead (receiveFrame a d k s) := by
  obtain ⟨row, hrow⟩ := Option.isSome_iff_exists.mp hk
  rw [readFrame, hrow]

/-- A read frame leaves what a read transaction with the frame's two bytes leaves, and answers both (R126). -/
theorem readFrame_eq_afterRead {s : State} {a : Addr} (hk : (findReg s.regtab a).isSome = true)
    (hopen : s.params.failClosed = false) (d k : Byte) :
    ∃ (x : Byte) (script : List Byte) (drawn : Nat) (dev : RefDevice),
      readFrame a d k s = { afterRead s a x d k with
        script := script, drawn := drawn, dev := dev,
        resp := ⟨0x00#8 ++ k ++ d, readCheck s a d != k, false, .byte d⟩ } := by
  obtain ⟨x, script, drawn, dev, hframe⟩ : ∃ x script drawn dev,
      receiveFrame a d k s = { afterRead s a x d k with script := script, drawn := drawn, dev := dev } :=
    ⟨_, _, _, _, receiveFrame_eq a d k s⟩
  refine ⟨x, script, drawn, dev, ?_⟩
  rw [readFrame_of_known hk, hframe, respondRead_of_not_withheld (by simp [afterRead, hopen])]
  rfl

/-- Settles O47: each read frame's arm is `readFrame` on its register's address, which the default table has. -/
theorem readFramesAreReadTransactions : Obligations.ReadFramesAreReadTransactions := by
  intro s d k ⟨i, a⟩ htab hopen hrow
  obtain ⟨hencode, hexec, hknown⟩ : encode i = .wire (packCmd a true ++ d ++ k) ∧
      exec i s = .next (readFrame a d k s) ∧ (findReg Config.regtab a).isSome = true := by
    simp only [List.mem_cons, List.not_mem_nil, or_false, Prod.mk.injEq] at hrow
    rcases hrow with ⟨rfl, rfl⟩ | ⟨rfl, rfl⟩ | ⟨rfl, rfl⟩ | ⟨rfl, rfl⟩ | ⟨rfl, rfl⟩ | ⟨rfl, rfl⟩
      | ⟨rfl, rfl⟩ | ⟨rfl, rfl⟩ | ⟨rfl, rfl⟩ | ⟨rfl, rfl⟩ | ⟨rfl, rfl⟩
    all_goals exact ⟨wire_mkFrame (by decide) d k, rfl, rfl⟩
  obtain ⟨x, script, drawn, dev, hread⟩ := readFrame_eq_afterRead (htab.symm ▸ hknown) hopen d k
  exact ⟨hencode, x, script, drawn, dev, hexec.trans (congrArg _ hread)⟩

/-- A frame is well-formed when its check byte is that of its other two (R61, R62). -/
theorem frameWellFormed_mkFrame (P : Params) (c d k : Byte) :
    frameWellFormed P (Decode.mkFrame c d k) = (k == pecCheck P c d) := by
  change (Decode.frameCheck _ == pecCheck P (Decode.frameCmd _) (Decode.frameData _)) = _
  rw [frameCheck_mkFrame, frameCmd_mkFrame, frameData_mkFrame]

theorem writeFrame_of_writable {s : State} {a : Addr} (hw : (findWritable s.regtab a).isSome = true) (d k : Byte) :
    writeFrame a d k s = if k = writeCheck s a d then respondWrite (sendWrite a d s) else afterRefusal s := by
  obtain ⟨row, hrow⟩ := Option.isSome_iff_exists.mp hw
  rw [writeFrame, hrow]
  rfl

/-- A write frame leaves what the write transaction leaves, and answers the frame sent (R125). -/
theorem respondWrite_sendWrite (s : State) (a : Addr) (d : Byte) :
    ∃ (x y z : Byte) (script : List Byte) (drawn : Nat) (dev : RefDevice),
      respondWrite (sendWrite a d s) = { afterWrite s a d x y z with
        script := script, drawn := drawn, dev := dev,
        resp := ⟨writeFrameWord s a d, false, false, .frame (writeFrameWord s a d)⟩ } := by
  obtain ⟨x, y, z, script, drawn, dev, hsend⟩ : ∃ x y z script drawn dev,
      sendWrite a d s = { afterWrite s a d x y z with script := script, drawn := drawn, dev := dev } :=
    ⟨_, _, _, _, _, _, sendWrite_eq a d s⟩
  refine ⟨x, y, z, script, drawn, dev, ?_⟩
  rw [hsend]
  rfl

theorem writeFrame_of_wellFormed {s : State} {a : Addr} (hw : (findWritable s.regtab a).isSome = true) {d k : Byte}
    (hf : frameWellFormed s.params (packCmd a false ++ d ++ k) = true) :
    ∃ (x y z : Byte) (script : List Byte) (drawn : Nat) (dev : RefDevice),
      writeFrame a d k s = { afterWrite s a d x y z with
        script := script, drawn := drawn, dev := dev,
        resp := ⟨packCmd a false ++ d ++ k, false, false, .frame (packCmd a false ++ d ++ k)⟩ } := by
  obtain rfl : k = writeCheck s a d := beq_iff_eq.mp ((frameWellFormed_mkFrame _ _ d k).symm.trans hf)
  rw [writeFrame_of_writable hw, if_pos rfl]
  exact respondWrite_sendWrite s a d

theorem writeFrame_of_not_wellFormed {s : State} {a : Addr} (hw : (findWritable s.regtab a).isSome = true) {d k : Byte}
    (hf : frameWellFormed s.params (packCmd a false ++ d ++ k) = false) : writeFrame a d k s = afterRefusal s := by
  have hk : k ≠ writeCheck s a d := beq_eq_false_iff_ne.mp ((frameWellFormed_mkFrame _ _ d k).symm.trans hf)
  rw [writeFrame_of_writable hw, if_neg hk]

/-- Settles O48: each write frame's arm is `writeFrame` on its register's address, which the default table has
read-write. -/
theorem writeFramesAreWriteTransactions : Obligations.WriteFramesAreWriteTransactions := by
  intro s d k ⟨i, a⟩ htab hrow
  obtain ⟨hencode, hexec, hwritable⟩ : encode i = .wire (packCmd a false ++ d ++ k) ∧
      exec i s = .next (writeFrame a d k s) ∧ (findWritable Config.regtab a).isSome = true := by
    simp only [List.mem_cons, List.not_mem_nil, or_false, Prod.mk.injEq] at hrow
    rcases hrow with ⟨rfl, rfl⟩ | ⟨rfl, rfl⟩ | ⟨rfl, rfl⟩ | ⟨rfl, rfl⟩ | ⟨rfl, rfl⟩
    all_goals exact ⟨wire_mkFrame (by decide) d k, rfl, rfl⟩
  rw [← htab] at hwritable
  refine ⟨hencode, fun hf => ?_, fun hf => ?_⟩
  · obtain ⟨x, y, z, script, drawn, dev, hwrite⟩ := writeFrame_of_wellFormed hwritable hf
    exact ⟨x, y, z, script, drawn, dev, hexec.trans (congrArg _ hwrite)⟩
  · rw [hexec, writeFrame_of_not_wellFormed hwritable hf]

/-! ### Refused requests (R70, R73) -/

/-- Settles O52: the only shape of an execution whose response is a refusal is the refusal itself. -/
theorem refusedRequestsChangeNothing : Obligations.RefusedRequestsChangeNothing := by
  intro i s t h hr
  cases shape_of_exec h with
  | refused => rfl
  | pure | check | write | read | frame => cases hr

section Refused
variable {s : State} {a : Addr}

theorem readReg_of_unknown (h : findReg s.regtab a = none) : readReg a s = afterRefusal s := by
  rw [readReg, h]; rfl

theorem getReg_of_unknown (h : findReg s.regtab a = none) : getReg a s = afterRefusal s := by
  rw [getReg, h]; rfl

theorem writeReg_of_not_writable (h : findWritable s.regtab a = none) (d : Byte) :
    writeReg a d s = afterRefusal s := by
  rw [writeReg, h]; rfl

theorem setReg_of_not_writable (h : findWritable s.regtab a = none) (v : Byte) :
    setReg a v s = afterRefusal s := by
  rw [setReg, h]; rfl

/-- A register of a kind without an encoder cannot be set (log entry 16). -/
theorem setReg_of_no_encoder {row : RegRow} {v : Byte} (h : findWritable s.regtab a = some row)
    (he : encodeKind s.params row.kind v = none) : setReg a v s = afterRefusal s := by
  rw [setReg, h]
  dsimp only
  rw [he]
  rfl

end Refused

/-- Settles O31: each transaction looks its address up first, and a `SET` its encoder next. -/
theorem requestsOutsideTheTableAreRefused : Obligations.RequestsOutsideTheTableAreRefused := by
  intro s a v
  refine ⟨fun h => ⟨?read, ?get⟩, fun h => ⟨?write, ?set⟩, fun row h he => ?noEncoder⟩
  case read => exact congrArg Host.Outcome.next (readReg_of_unknown h)
  case get => exact congrArg Host.Outcome.next (getReg_of_unknown h)
  case write => exact congrArg Host.Outcome.next (writeReg_of_not_writable h v)
  case set => exact congrArg Host.Outcome.next (setReg_of_not_writable h v)
  case noEncoder => exact congrArg Host.Outcome.next (setReg_of_no_encoder h he)

/-! ### Sample words (R71, R72) -/

/-- Settles O8: the decoder evaluated on nine words. -/
theorem sampleWordsDecode : Obligations.SampleWordsDecode := by
  unfold Obligations.SampleWordsDecode
  decide

end Sys2Proof.Proofs.EncodingFamily
end

section
/-! PROOFS of the PEC family (spec/40_pec.md): the forms of the check byte are one function (R100, R104 to R107, R109), what
the five operations return and leave (R101 to R106), and which errors on the wire the check notices (R108).

Everything rests on two facts about the serial division. It is linear (`pecByteStep_xor`), and an accumulator fed its own
bits is shifted out (`pecByteStep_self`); together they are the table step law (`pecByteStep_eq_xor`). On this hardware the
generator has the term 1, so that the table is a permutation, and it is a multiple of `x + 1`, so that the division keeps
parity. -/

namespace Sys2Proof.Proofs.PecFamily

open Sys2Proof Sys2Proof.Machine

/-! ### The division, one message bit at a time (R102) -/

/-- The bits `n - 1` to `0` of a word, the highest first: the order in which a message enters the division (R100). -/
def bitsDown {w : Nat} (m : BitVec w) : Nat → List Bool
  | 0 => []
  | n + 1 => m.getLsbD n :: bitsDown m n

theorem pecBitOrder_msbFirst {P : Params} (h : P.pecMsbFirst = true) (b : Byte) : pecBitOrder P b = bitsDown b 8 :=
  if_pos h

theorem pecByteStep_msbFirst {P : Params} (h : P.pecMsbFirst = true) (p b : Byte) :
    pecByteStep P p b = pecBitsStep P p (bitsDown b 8) := by
  rw [pecByteStep, pecBitOrder_msbFirst h]

theorem pecBitsStep_append (P : Params) (p : Byte) (bs cs : List Bool) :
    pecBitsStep P p (bs ++ cs) = pecBitsStep P (pecBitsStep P p bs) cs := List.foldl_append

/-- Bit `k` of the next accumulator: bit `k - 1` of the old one, and the feedback where the generator has a term. -/
theorem getLsbD_pecBitStep (P : Params) (p : Byte) (din : Bool) (k : Nat) :
    (pecBitStep P p din).getLsbD k =
      ((decide (k < 8) && (decide (1 ≤ k) && p.getLsbD (k - 1))) ^^
        ((p.getLsbD 7 ^^ din) && P.pecPoly.getLsbD k)) := by
  rw [pecBitStep, BitVec.getLsbD_xor, BitVec.getLsbD_shiftLeft, Bool.and_assoc]
  cases p.getLsbD 7 ^^ din <;> cases k <;> simp

/-- A message bit equal to bit 7 of the accumulator gives no feedback. -/
theorem pecBitStep_own_msb (P : Params) (p : Byte) : pecBitStep P p (p.getLsbD 7) = p <<< 1 := by
  simp [pecBitStep]

/-- An accumulator fed its own bits is shifted out. -/
theorem pecBitsStep_own_bits (P : Params) (p : Byte) {n : Nat} (hn : n ≤ 8) :
    pecBitsStep P (p <<< (8 - n)) (bitsDown p n) = 0x00#8 := by
  induction n with
  | zero => exact BitVec.shiftLeft_eq_zero le_rfl
  | succ n ih =>
    have hmsb : p.getLsbD n = (p <<< (8 - (n + 1))).getLsbD 7 := by
      rw [BitVec.getLsbD_shiftLeft, show 7 - (8 - (n + 1)) = n by omega]
      simp
    change pecBitsStep P (pecBitStep P _ (p.getLsbD n)) _ = _
    rw [hmsb, pecBitStep_own_msb, ← BitVec.shiftLeft_add, show 8 - (n + 1) + 1 = 8 - n by omega]
    exact ih (by omega)

theorem pecByteStep_self {P : Params} (h : P.pecMsbFirst = true) (p : Byte) : pecByteStep P p p = 0x00#8 := by
  rw [pecByteStep_msbFirst h]
  simpa using pecBitsStep_own_bits P p le_rfl

/-- The old accumulator and the new byte enter only through their exclusive-or (R105). -/
theorem pecByteStep_eq_xor {P : Params} (h : P.pecMsbFirst = true) (p b : Byte) :
    pecByteStep P p b = pecByteStep P 0x00#8 (p ^^^ b) := by
  have hsplit := pecByteStep_xor P p 0x00#8 p (p ^^^ b)
  rwa [pecByteStep_self h, BitVec.xor_zero, BitVec.zero_xor, xor_cancel_left] at hsplit

theorem pecByteStep_eq_lookup {P : Params} (h : P.pecMsbFirst = true) (p b : Byte) :
    pecByteStep P p b = pecLookup (pecTableOf P) (p ^^^ b) := by
  rw [pecLookup_tableOf, pecByteStep_eq_xor h]

theorem pecTableOf_hardware : pecTableOf Params.hardware = Config.pecTable := by decide +kernel

/-- Settles O12: the table step law, for every generator, and the printed table by evaluating its 256 entries. -/
theorem tableStepLaw : Obligations.TableStepLaw := by
  refine ⟨fun P p b h => ?_, pecTableOf_hardware⟩
  rw [← pecByteStep_eq_lookup h, pecByteStep_msbFirst h]
  rfl

/-! ### The table of this hardware (R104, R107) -/

/-- The printed table holds the eight steps from 0x00. -/
theorem pecLookup_pecTable (i : Byte) : pecLookup Config.pecTable i = pecByteStep Params.hardware 0x00#8 i := by
  rw [← pecTableOf_hardware, pecLookup_tableOf]

theorem pecLookup_tableOf_xor (P : Params) (i j : Byte) :
    pecLookup (pecTableOf P) (i ^^^ j) = pecLookup (pecTableOf P) i ^^^ pecLookup (pecTableOf P) j := by
  simpa [pecLookup_tableOf] using pecByteStep_xor P 0x00#8 0x00#8 i j

theorem pecLookup_pecTable_xor (i j : Byte) :
    pecLookup Config.pecTable (i ^^^ j) = pecLookup Config.pecTable i ^^^ pecLookup Config.pecTable j := by
  rw [← pecTableOf_hardware, pecLookup_tableOf_xor]

/-- A step on a 0 bit loses nothing when the generator has the term 1: bit 0 of the result is the bit shifted out. -/
theorem eq_zero_of_pecBitStep_false {P : Params} (h : P.pecPoly.getLsbD 0 = true) {p : Byte}
    (hp : pecBitStep P p false = 0x00#8) : p = 0x00#8 := by
  have hmsb : p.getLsbD 7 = false := by
    have hbit := getLsbD_pecBitStep P p false 0
    rw [hp, h] at hbit
    simpa using hbit.symm
  refine BitVec.eq_of_getLsbD_eq fun k hk => ?_
  by_cases hlast : k = 7
  · subst hlast; simpa using hmsb
  · have hbit := getLsbD_pecBitStep P p false (k + 1)
    rw [hp, hmsb] at hbit
    simpa [show k + 1 < 8 by omega] using hbit.symm

theorem eq_zero_of_pecBitsStep_zeros {P : Params} (h : P.pecPoly.getLsbD 0 = true) {n : Nat} {p : Byte}
    (hp : pecBitsStep P p (List.replicate n false) = 0x00#8) : p = 0x00#8 := by
  induction n generalizing p with
  | zero => exact hp
  | succ n ih => exact eq_zero_of_pecBitStep_false h (ih hp)

theorem pecLookup_pecTable_eq_zero_iff {i : Byte} : pecLookup Config.pecTable i = 0x00#8 ↔ i = 0x00#8 := by
  refine ⟨fun h => ?_, fun h => by subst h; decide⟩
  rw [pecLookup_pecTable, ← BitVec.xor_zero (x := i), ← pecByteStep_eq_xor rfl] at h
  exact eq_zero_of_pecBitsStep_zeros (n := 8) (by decide) h

theorem pecLookup_pecTable_injective : Function.Injective (pecLookup Config.pecTable) := by
  intro i j h
  rwa [← BitVec.xor_eq_zero_iff, ← pecLookup_pecTable_xor, pecLookup_pecTable_eq_zero_iff, BitVec.xor_eq_zero_iff] at h

theorem pecLookup_pecTable_bijective : Function.Bijective (pecLookup Config.pecTable) :=
  Finite.injective_iff_bijective.mp pecLookup_pecTable_injective

/-! ### Long division (R100) -/

/-- The dividend when all message bits but the low `n` have entered: the accumulator on top of the rest of the message. -/
def dividend (p : Byte) (m : BitVec 16) (n : Nat) : BitVec 24 :=
  (p.setWidth 24 <<< n) ^^^ ((m.setWidth n).setWidth 24 <<< 8)

theorem getLsbD_dividend (p : Byte) (m : BitVec 16) (n : Nat) {i : Nat} (hi : i < 24) :
    (dividend p m n).getLsbD i = ((decide (n ≤ i) && p.getLsbD (i - n)) ^^
      (decide (8 ≤ i ∧ i < n + 8) && m.getLsbD (i - 8))) := by
  have hmsg : (8 ≤ i ∧ i < n + 8) ↔ (8 ≤ i ∧ i - 8 < n) := by omega
  simp [dividend, hi, hmsg, ← decide_not, Bool.and_assoc]

/-- The generator `x^8 + poly`, shifted under the dividend's coefficient `8 + n`. -/
theorem getLsbD_generator (poly : Byte) (n : Nat) {i : Nat} (hi : i < 24) :
    ((0x100#24 ||| poly.setWidth 24) <<< n).getLsbD i =
      (decide (n ≤ i) && (decide (i - n = 8) || poly.getLsbD (i - n))) := by
  have h256 : (0x100#24).getLsbD (i - n) = decide (i - n = 8) := by
    have h : ∀ k : Fin 24, (0x100#24).getLsbD k = decide (k.val = 8) := by decide
    exact h ⟨i - n, by omega⟩
  rw [BitVec.getLsbD_shiftLeft, BitVec.getLsbD_or, h256]
  simp [hi, ← decide_not, show i - n < 24 by omega]

/-- The coefficient that long division looks at next is the feedback of the serial step (R102). -/
theorem getLsbD_dividend_top (p : Byte) (m : BitVec 16) {n : Nat} (hn : n < 16) :
    (dividend p m (n + 1)).getLsbD (8 + n) = (p.getLsbD 7 ^^ m.getLsbD n) := by
  rw [getLsbD_dividend _ _ _ (by omega)]
  simp [show n + 1 ≤ 8 + n by omega, show 8 + n - (n + 1) = 7 by omega, show 8 + n < n + 1 + 8 by omega]

theorem getLsbD_ite_xor (b : Bool) (v w : BitVec 24) (i : Nat) :
    (if b then v ^^^ w else v).getLsbD i = (v.getLsbD i ^^ (b && w.getLsbD i)) := by
  cases b <;> simp

/-- One step of long division is one serial step: the coefficient at `8 + n` cancels, the others are the next dividend's. -/
theorem dividend_cancel (P : Params) (p : Byte) (m : BitVec 16) {n : Nat} (hn : n < 16) :
    (if (dividend p m (n + 1)).getLsbD (8 + n) then
        dividend p m (n + 1) ^^^ ((0x100#24 ||| P.pecPoly.setWidth 24) <<< n)
      else dividend p m (n + 1)) = dividend (pecBitStep P p (m.getLsbD n)) m n := by
  refine BitVec.eq_of_getLsbD_eq fun i hi => ?_
  rw [getLsbD_dividend_top p m hn, getLsbD_ite_xor, getLsbD_dividend _ _ _ hi, getLsbD_dividend _ _ _ hi,
    getLsbD_generator _ _ hi, getLsbD_pecBitStep]
  rcases Nat.lt_or_ge i n with hlt | hge
  · simp [show ¬ n ≤ i by omega, show ¬ n + 1 ≤ i by omega, show i < n + 1 + 8 by omega, show i < n + 8 by omega]
  obtain ⟨k, rfl⟩ := Nat.exists_eq_add_of_le hge
  rw [show n + k - (n + 1) = k - 1 by omega, show n + k - n = k by omega]
  by_cases htop : k = 8
  · subst htop
    simp
  · have hmsg : (8 ≤ n + k ∧ n + k < n + 1 + 8) ↔ (8 ≤ n + k ∧ n + k < n + 8) := by omega
    have hacc : (decide (k < 8) && (decide (1 ≤ k) && p.getLsbD (k - 1))) = (decide (1 ≤ k) && p.getLsbD (k - 1)) := by
      by_cases hk : k < 8
      · simp [hk]
      · simp [hk, BitVec.getLsbD_of_ge p (k - 1) (by omega)]
    simp only [hacc, hmsg, htop, Nat.le_add_right, Nat.add_le_add_iff_left, decide_true, decide_false, Bool.true_and,
      Bool.false_or, Bool.xor_assoc]
    rw [Bool.xor_comm (_ && m.getLsbD _)]

/-- Long division keeps the form of the dividend, and ends with the accumulator alone (R100). -/
theorem gf2Reduce_dividend (P : Params) (p : Byte) (m : BitVec 16) {n : Nat} (hn : n ≤ 16) :
    (gf2Reduce P.pecPoly n (dividend p m n)).setWidth 8 = pecBitsStep P p (bitsDown m n) := by
  induction n generalizing p with
  | zero => simp [gf2Reduce, dividend, bitsDown, pecBitsStep]
  | succ n ih =>
    rw [gf2Reduce, dividend_cancel P p m (by omega), ih _ (by omega)]
    rfl

theorem gf2Remainder_eq (P : Params) (m : BitVec 16) :
    gf2Remainder P.pecPoly m = pecBitsStep P 0x00#8 (bitsDown m 16) := by
  have h : m ++ 0x00#8 = dividend 0x00#8 m 16 := by
    refine BitVec.eq_of_getLsbD_eq fun i hi => ?_
    rw [getLsbD_dividend _ _ _ hi, BitVec.getLsbD_append]
    by_cases hlow : i < 8
    · simp [hlow, show ¬ 8 ≤ i by omega]
    · simp [hlow, show 8 ≤ i by omega, show i < 24 by omega]
  rw [gf2Remainder, h, gf2Reduce_dividend P _ m le_rfl]

/-! ### The check byte (R100, R106 to R109) -/

theorem bitsDown_append (c d : Byte) : bitsDown (c ++ d) 16 = bitsDown c 8 ++ bitsDown d 8 := by
  simp only [bitsDown, BitVec.getLsbD_append]
  rfl

/-- The remainder of two bytes times `x^8` is two byte steps from 0x00. -/
theorem gf2Remainder_append {P : Params} (h : P.pecMsbFirst = true) (c d : Byte) :
    gf2Remainder P.pecPoly (c ++ d) = pecByteStep P (pecByteStep P 0x00#8 c) d := by
  rw [gf2Remainder_eq, bitsDown_append, pecBitsStep_append, pecByteStep_msbFirst h, pecByteStep_msbFirst h]

/-- The seed enters as if it were added to the command byte. -/
theorem pecCheck_eq_seed_xor {P : Params} (h : P.pecMsbFirst = true) (c d : Byte) :
    pecCheck P c d = pecByteStep P (pecByteStep P 0x00#8 (P.pecInit ^^^ c)) d ^^^ P.pecXorOut := by
  rw [pecCheck, pecByteStep_eq_xor h P.pecInit]

theorem pecCheckByTable_tableOf {P : Params} (h : P.pecMsbFirst = true) (c d : Byte) :
    pecCheckByTable P (pecTableOf P) c d = pecCheck P c d := by
  rw [pecCheckByTable, pecCheck, pecByteStep_eq_lookup h, pecByteStep_eq_lookup h]

theorem pecCheckByTable_hardware (c d : Byte) :
    pecCheckByTable Params.hardware Config.pecTable c d = pecCheck Params.hardware c d := by
  rw [← pecTableOf_hardware, pecCheckByTable_tableOf rfl]

/-- On this hardware the final exclusive-or is 0x00 (R100). -/
theorem xor_pecXorOut_hardware (b : Byte) : b ^^^ Params.hardware.pecXorOut = b := BitVec.xor_zero

theorem pecByteStep_hardware (p b : Byte) : pecByteStep Params.hardware p b = pecLookup Config.pecTable (p ^^^ b) := by
  rw [pecByteStep_eq_lookup rfl, pecTableOf_hardware]

theorem pecCheck_hardware (c d : Byte) :
    pecCheck Params.hardware c d = pecLookup Config.pecTable (pecLookup Config.pecTable (0x41 ^^^ c) ^^^ d) := by
  rw [← pecCheckByTable_hardware, pecCheckByTable, xor_pecXorOut_hardware]
  rfl

/-- A change of the two bytes changes the check byte by two byte steps from 0x00 on the change: the seed cancels. -/
theorem pecCheck_xor (P : Params) (c d c' d' : Byte) :
    pecCheck P (c ^^^ c') (d ^^^ d') = pecCheck P c d ^^^ pecByteStep P (pecByteStep P 0x00#8 c') d' := by
  have hcmd := pecByteStep_xor P P.pecInit 0x00#8 c c'
  rw [BitVec.xor_zero] at hcmd
  rw [pecCheck, hcmd, pecByteStep_xor, pecCheck]
  ac_rfl

theorem pecByteStep_twice_eq_lookup {P : Params} (h : P.pecMsbFirst = true) (c d : Byte) :
    pecByteStep P (pecByteStep P 0x00#8 c) d = pecLookup (pecTableOf P) (pecLookup (pecTableOf P) c ^^^ d) := by
  rw [pecByteStep_eq_lookup h, pecLookup_tableOf P c]

/-- Settles O15: the table step law (R105), twice. -/
theorem tableAndBitSerialRealisationsAgree : Obligations.TableAndBitSerialRealisationsAgree :=
  ⟨fun _ c d h => pecCheckByTable_tableOf h c d, pecCheckByTable_hardware⟩

/-- Settles O16: serial division is long division, and the seed enters as an addition to the command byte. -/
theorem checkByteIsThePolynomialRemainder : Obligations.CheckByteIsThePolynomialRemainder := by
  have hrem : ∀ (P : Params) (cmd data : Byte), P.pecMsbFirst = true →
      pecCheck P cmd data = gf2Remainder P.pecPoly ((P.pecInit ^^^ cmd) ++ data) ^^^ P.pecXorOut := by
    intro P cmd data h
    rw [pecCheck_eq_seed_xor h, gf2Remainder_append h]
  refine ⟨hrem, fun cmd data => ?_⟩
  exact (hrem Params.hardware cmd data rfl).trans (xor_pecXorOut_hardware _)

/-- The wire carries the command byte, then the data byte, each most significant bit first (R41, R109). -/
theorem frameMessageBits_frame (cmd data check : Byte) :
    frameMessageBits (cmd ++ data ++ check) = bitsDown cmd 8 ++ bitsDown data 8 := by
  simp only [frameMessageBits, BitVec.getLsbD_append]
  rfl

/-- Settles O17: the sixteen steps along the wire are the two byte steps. -/
theorem serialScheduleGivesTheCheckByte : Obligations.SerialScheduleGivesTheCheckByte := by
  intro P cmd data check h
  rw [pecAlongWire, frameMessageBits_frame, pecBitsStep_append, pecCheck, pecByteStep_msbFirst h, pecByteStep_msbFirst h]

theorem xor_left_bijective (b : Byte) : Function.Bijective (b ^^^ ·) :=
  Function.Involutive.bijective fun x => xor_cancel_left b x

theorem xor_right_bijective (b : Byte) : Function.Bijective (· ^^^ b) :=
  Function.Involutive.bijective fun x => xor_cancel_right x b

/-- Settles O18: the division is linear, and the table a permutation. -/
theorem checkByteIsAffineAndBijective : Obligations.CheckByteIsAffineAndBijective := by
  refine ⟨fun P c d c' d' h => ?affine, fun c => ?inData, fun d => ?inCommand⟩
  case affine =>
    have hdiff := pecCheck_xor P c d (c ^^^ c') (d ^^^ d')
    rw [xor_cancel_left, xor_cancel_left] at hdiff
    rw [hdiff, xor_cancel_left, pecByteStep_twice_eq_lookup h]
  case inData =>
    simp only [pecCheck_hardware]
    exact pecLookup_pecTable_bijective.comp (xor_left_bijective _)
  case inCommand =>
    simp only [pecCheck_hardware]
    exact pecLookup_pecTable_bijective.comp
      ((xor_right_bijective d).comp (pecLookup_pecTable_bijective.comp (xor_left_bijective _)))

/-! ### The operations of the family (R101 to R104, R106) -/

/-- `PEC` holds `p` and the response returns it; nothing else changes. -/
def returnPec (p : Byte) (s : State) : State :=
  { s with pec := p, resp := ⟨p.setWidth 24, false, false, .byte p⟩ }

theorem exec_pecSeed (s : State) : exec .pecSeed s = .next (returnPec s.params.pecInit s) := rfl

theorem exec_pecBit (din : Bool) (s : State) :
    exec (.pecBit din) s = .next (returnPec (pecBitStep s.params s.pec din) s) := rfl

theorem exec_pecByte (b : Byte) (s : State) :
    exec (.pecByte b) s = .next (returnPec (pecByteStep s.params s.pec b) s) := rfl

theorem exec_pecCalc (cmd data : Byte) (s : State) :
    exec (.pecCalc cmd data) s = .next (returnPec (pecCheck s.params cmd data) s) := rfl

/-- `PEC.BIT` after `PEC.BIT` runs the division over their bits. -/
theorem runAll_pecBits (b : Bool) (bs : List Bool) (s : State) :
    runAll ((b :: bs).map .pecBit) s = .next (returnPec (pecBitsStep s.params s.pec (b :: bs)) s) := by
  induction bs generalizing b s with
  | nil => rfl
  | cons c cs ih => exact ih c (returnPec (pecBitStep s.params s.pec b) s)

/-- Settles O9: the seed of this hardware is 0x41. -/
theorem pecSeedLoadsTheSeed : Obligations.PecSeedLoadsTheSeed := by
  refine ⟨fun w hfn => by simp [decode, decodeReq, hfn], fun s hP => ?_⟩
  have hinit : s.params.pecInit = 0x41 := by rw [hP]; rfl
  rw [exec_pecSeed, hinit]
  rfl

/-- Settles O10: the generator of this hardware has the terms 1, `x` and `x^2` below `x^8`. -/
theorem pecBitShiftsWithFeedback : Obligations.PecBitShiftsWithFeedback := by
  refine ⟨fun w hfn => by simp [decode, decodeReq, hfn], fun s din hP => ?_⟩
  have hpoly : s.params.pecPoly = 0x07#8 := by rw [hP]; rfl
  refine ⟨pecBitStep s.params s.pec din, exec_pecBit din s, ?bit0, ?bit1, ?bit2, fun k hlo hhi => ?upper⟩
  all_goals rw [getLsbD_pecBitStep, hpoly]
  case bit0 => simp
  case bit1 => simp
  case bit2 => simp
  case upper =>
    have hterm : (0x07#8).getLsbD k = false := by interval_cases k <;> rfl
    simp only [hterm, show k < 8 by omega, show 1 ≤ k by omega, decide_true, Bool.true_and, Bool.and_false,
      Bool.xor_false]

/-- Settles O11: the bits of `PEC.BYTE` are those of eight `PEC.BIT`, and the table step law (R105). -/
theorem pecByteIsEightBitSteps : Obligations.PecByteIsEightBitSteps := by
  refine ⟨fun w hfn => by simp [decode, decodeReq, hfn], fun s b hP => ⟨?table, ?bits⟩⟩
  case table =>
    have hstep : pecByteStep s.params s.pec b = pecLookup Config.pecTable (s.pec ^^^ b) := by
      rw [hP, pecByteStep_hardware]
    rw [exec_pecByte, hstep]
    rfl
  case bits =>
    rw [exec_pecByte, pecByteStep_msbFirst (by rw [hP]; rfl)]
    exact runAll_pecBits (b.getLsbD 7) (bitsDown b 7) s

/-- Settles O13: the entries are byte steps from 0x00, so remainders; linearity and bijectivity are the table's. -/
theorem pecTblReturnsTheTableEntry : Obligations.PecTblReturnsTheTableEntry := by
  refine ⟨fun w hfn => by simp [decode, decodeReq, hfn], fun s i htbl => ?entry,
    fun i => ⟨pecLookup_pecTable i, ?remainder⟩, pecLookup_pecTable_xor, pecLookup_pecTable_bijective, by decide⟩
  case entry => rw [← htbl]; rfl
  case remainder =>
    refine Eq.trans ?_ (gf2Remainder_append (P := Params.hardware) rfl 0x00#8 i).symm
    rw [pecByteStep_self rfl, pecLookup_pecTable]

/-- The seed's contribution to a check byte is `T[T[0x41]]` (R106). -/
theorem pecCheckByTable_closed_form (cmd data : Byte) :
    pecCheckByTable Params.hardware Config.pecTable cmd data =
      pecLookup Config.pecTable (pecLookup Config.pecTable cmd ^^^ data) ^^^ 0x4E := by
  have hseed : pecLookup Config.pecTable (pecLookup Config.pecTable 0x41) = 0x4E := by decide
  rw [pecCheckByTable_hardware, pecCheck_hardware, pecLookup_pecTable_xor 0x41, BitVec.xor_assoc,
    pecLookup_pecTable_xor, hseed, BitVec.xor_comm]

/-- Data 0x00 has check byte 0x00 only when the command byte cancels the seed. -/
theorem pecCheck_hardware_zero_iff (cmd : Byte) : pecCheck Params.hardware cmd 0x00 = 0x00 ↔ cmd = 0x41 := by
  rw [pecCheck_hardware]
  refine (pecLookup_pecTable_eq_zero_iff.trans ?_)
  rw [show (0x00 : Byte) = 0x00#8 from rfl, BitVec.xor_zero, pecLookup_pecTable_eq_zero_iff, BitVec.xor_eq_zero_iff,
    eq_comm]

/-- Settles O14: `PEC.CALC` is the seed and two byte steps. -/
theorem pecCalcReturnsTheCheckByte : Obligations.PecCalcReturnsTheCheckByte := by
  refine ⟨fun w hfn => by simp [decode, decodeReq, hfn], fun s cmd data hP => ⟨?result, ?sequence⟩,
    fun cmd data => ⟨?table, pecCheckByTable_closed_form cmd data⟩, pecCheck_hardware_zero_iff, ?samples⟩
  case result =>
    have hcheck : pecCheck s.params cmd data = pecCheckByTable Params.hardware Config.pecTable cmd data := by
      rw [hP, pecCheckByTable_hardware]
    rw [exec_pecCalc, hcheck]
    rfl
  case sequence =>
    have hserial : pecCheck s.params cmd data = pecByteStep s.params (pecByteStep s.params s.params.pecInit cmd) data := by
      rw [hP]
      exact xor_pecXorOut_hardware _
    rw [exec_pecCalc, hserial]
    rfl
  case table => rw [pecCheckByTable_hardware, pecCheck_hardware]
  case samples => decide

/-! ### Errors on the wire (R108) -/

/-- What the division leaves of all 24 bits of an error pattern: 0x00 exactly when no check notices it. -/
def syndrome (E : FrameWord) : Byte := pecBitsStep Params.hardware 0x00#8 (bitsDown E 24)

theorem bitsDown_xor {w : Nat} (x y : BitVec w) (n : Nat) :
    bitsDown (x ^^^ y) n = List.zipWith Bool.xor (bitsDown x n) (bitsDown y n) := by
  induction n with
  | zero => rfl
  | succ n ih => simp only [bitsDown, List.zipWith_cons_cons, BitVec.getLsbD_xor, ih]

theorem length_bitsDown {w : Nat} (x : BitVec w) (n : Nat) : (bitsDown x n).length = n := by
  induction n with
  | zero => rfl
  | succ n ih => rw [bitsDown, List.length_cons, ih]

theorem syndrome_xor (E E' : FrameWord) : syndrome (E ^^^ E') = syndrome E ^^^ syndrome E' := by
  have h := pecBitsStep_xor Params.hardware (bitsDown E 24) (bitsDown E' 24) 0x00#8 0x00#8
    (by simp only [length_bitsDown])
  rwa [← bitsDown_xor] at h

theorem syndrome_eq_lookup (E : FrameWord) :
    syndrome E = pecLookup Config.pecTable (pecLookup Config.pecTable
      (pecLookup Config.pecTable (E.extractLsb' 16 8) ^^^ E.extractLsb' 8 8) ^^^ E.extractLsb' 0 8) := by
  have hbits : bitsDown E 24 = bitsDown (E.extractLsb' 16 8) 8 ++ (bitsDown (E.extractLsb' 8 8) 8 ++
      bitsDown (E.extractLsb' 0 8) 8) := by
    simp only [bitsDown, BitVec.getLsbD_extractLsb']
    rfl
  rw [syndrome, hbits, pecBitsStep_append, pecBitsStep_append]
  simp only [← pecByteStep_msbFirst (P := Params.hardware) rfl, pecByteStep_hardware, BitVec.zero_xor]

theorem syndrome_eq_zero_iff {E : FrameWord} : syndrome E = 0x00#8 ↔ E.extractLsb' 0 8 =
    pecLookup Config.pecTable (pecLookup Config.pecTable (E.extractLsb' 16 8) ^^^ E.extractLsb' 8 8) := by
  rw [syndrome_eq_lookup, pecLookup_pecTable_eq_zero_iff, BitVec.xor_eq_zero_iff, eq_comm]

/-- An error on a well-formed frame escapes exactly when its syndrome is 0x00. -/
theorem wellFormed_xor_iff {F : FrameWord} (hF : frameWellFormed Params.hardware F = true) (E : FrameWord) :
    frameWellFormed Params.hardware (F ^^^ E) = true ↔ syndrome E = 0x00#8 := by
  rw [frameWellFormed, beq_iff_eq] at hF ⊢
  rw [BitVec.extractLsb'_xor, BitVec.extractLsb'_xor, BitVec.extractLsb'_xor, hF, pecCheck_xor, BitVec.xor_right_inj,
    pecByteStep_twice_eq_lookup rfl, pecTableOf_hardware, syndrome_eq_zero_iff]

/-! #### Parity: the generator is a multiple of `x + 1` -/

/-- Whether an odd number of the bits is 1. -/
def parity (bits : List Bool) : Bool := bits.foldr Bool.xor false

/-- The feedback enters at three bits and the bit shifted out is in it, so that it cancels from the parity. -/
theorem parity_pecBitStep (p : Byte) (din : Bool) :
    parity (bitsDown (pecBitStep Params.hardware p din) 8) = (parity (bitsDown p 8) ^^ din) := by
  have hpoly : Params.hardware.pecPoly = 0x07#8 := rfl
  have hbits : bitsDown (pecBitStep Params.hardware p din) 8 = [p.getLsbD 6, p.getLsbD 5, p.getLsbD 4, p.getLsbD 3,
      p.getLsbD 2, p.getLsbD 1 ^^ (p.getLsbD 7 ^^ din), p.getLsbD 0 ^^ (p.getLsbD 7 ^^ din), p.getLsbD 7 ^^ din] := by
    simp only [bitsDown, getLsbD_pecBitStep, hpoly]
    simp
  rw [hbits]
  simp only [parity, bitsDown, List.foldr_cons, List.foldr_nil]
  cases p.getLsbD 7 <;> cases din <;> simp

/-- The parity of the accumulator and of the message bits still to come does not change. -/
theorem parity_pecBitsStep (p : Byte) (bits : List Bool) :
    parity (bitsDown (pecBitsStep Params.hardware p bits) 8) = (parity (bitsDown p 8) ^^ parity bits) := by
  induction bits generalizing p with
  | nil => exact (Bool.xor_false _).symm
  | cons b bs ih => exact (ih _).trans (by rw [parity_pecBitStep, Bool.xor_assoc]; rfl)

theorem parity_bitsDown_eq_countP {w : Nat} (x : BitVec w) (n : Nat) :
    parity (bitsDown x n) = decide ((List.range n).countP (x.getLsbD ·) % 2 = 1) := by
  induction n with
  | zero => rfl
  | succ n ih =>
    rw [List.range_succ, List.countP_append, List.countP_singleton]
    change (x.getLsbD n ^^ parity (bitsDown x n)) = _
    rw [ih]
    cases x.getLsbD n
    · simp
    · simp only [Bool.true_xor, if_true]
      grind

/-- An escaping pattern has even weight: 0x00 has even parity. -/
theorem even_weight_of_syndrome {E : FrameWord} (h : syndrome E = 0x00#8) : weight E % 2 = 0 := by
  have hodd := parity_pecBitsStep 0x00#8 (bitsDown E 24)
  rw [← syndrome, h, parity_bitsDown_eq_countP E] at hodd
  have : ¬ weight E % 2 = 1 := by simpa [parity, bitsDown, weight] using hodd
  omega

/-! #### Two errors: the residues of `x^8` to `x^31` differ -/

theorem syndrome_bits_nodup : ((List.range 24).map fun i => syndrome (BitVec.twoPow 24 i)).Nodup := by decide

theorem eq_bit_xor_bit_of_weight_two {E : FrameWord} (h : weight E = 2) :
    ∃ i ∈ List.range 24, ∃ j ∈ List.range 24, i ≠ j ∧ E = BitVec.twoPow 24 i ^^^ BitVec.twoPow 24 j := by
  rw [weight, List.countP_eq_length_filter, List.length_eq_two] at h
  obtain ⟨i, j, hL⟩ := h
  have hmem : ∀ k, k = i ∨ k = j ↔ k < 24 ∧ E.getLsbD k = true := by
    intro k
    have hfilter := List.mem_filter (x := k) (as := List.range 24) (p := fun i => E.getLsbD i)
    rw [hL] at hfilter
    simpa using hfilter
  have hne : i ≠ j := by
    have hnodup := (List.nodup_range (n := 24)).filter (fun i => E.getLsbD i)
    rw [hL] at hnodup
    simpa using hnodup
  have hi : i < 24 := ((hmem i).mp (.inl rfl)).1
  have hj : j < 24 := ((hmem j).mp (.inr rfl)).1
  refine ⟨i, List.mem_range.mpr hi, j, List.mem_range.mpr hj, hne, BitVec.eq_of_getLsbD_eq fun k hk => ?_⟩
  have hbit : E.getLsbD k = decide (k = i ∨ k = j) := by simp [hmem k, hk]
  rw [hbit, BitVec.getLsbD_xor, BitVec.getLsbD_twoPow, BitVec.getLsbD_twoPow]
  grind

theorem weight_ne_two_of_syndrome {E : FrameWord} (h : syndrome E = 0x00#8) : weight E ≠ 2 := by
  intro hw
  obtain ⟨i, hi, j, hj, hne, rfl⟩ := eq_bit_xor_bit_of_weight_two hw
  rw [syndrome_xor, BitVec.xor_eq_zero_iff] at h
  exact hne (List.inj_on_of_nodup_map syndrome_bits_nodup hi hj h)

theorem eq_zero_of_weight {E : FrameWord} (h : weight E = 0) : E = 0 := by
  rw [weight, List.countP_eq_zero] at h
  exact BitVec.eq_of_getLsbD_eq fun k hk => by simpa using h k (List.mem_range.mpr hk)

/-! #### Errors inside one byte: the table is a permutation -/

/-- A byte of the pattern that the mask covers. -/
theorem extractLsb'_eq_zero_of_and {E m : FrameWord} (h : E &&& m = 0) {lo : Nat}
    (hm : m.extractLsb' lo 8 = BitVec.allOnes 8) : E.extractLsb' lo 8 = 0x00#8 := by
  have hx := congrArg (BitVec.extractLsb' lo 8) h
  rw [BitVec.extractLsb'_and, hm, BitVec.and_allOnes] at hx
  simpa using hx

theorem eq_zero_of_bytes {E : FrameWord} (hcmd : E.extractLsb' 16 8 = 0x00#8) (hdata : E.extractLsb' 8 8 = 0x00#8)
    (hcheck : E.extractLsb' 0 8 = 0x00#8) : E = 0 := by
  rw [← EncodingFamily.mkFrame_fields E, Decode.frameCmd, Decode.frameData, Decode.frameCheck, hcmd, hdata, hcheck]
  rfl

/-- With two of the three bytes 0x00, the third is too: `T` takes only 0x00 to 0x00. -/
theorem eq_zero_of_one_byte {E : FrameWord} (h : syndrome E = 0x00#8)
    (hbyte : E &&& 0x00FFFF = 0 ∨ E &&& 0xFF00FF = 0 ∨ E &&& 0xFFFF00 = 0) : E = 0 := by
  have hT : ∀ i, pecLookup Config.pecTable i = 0x00#8 ↔ i = 0x00#8 := fun _ => pecLookup_pecTable_eq_zero_iff
  have h0 : pecLookup Config.pecTable 0x00#8 = 0x00#8 := (hT _).mpr rfl
  rw [syndrome_eq_zero_iff] at h
  rcases hbyte with hm | hm | hm
  · have hdata := extractLsb'_eq_zero_of_and hm (lo := 8) (by decide)
    have hcheck := extractLsb'_eq_zero_of_and hm (lo := 0) (by decide)
    rw [hcheck, hdata, BitVec.xor_zero, eq_comm, hT, hT] at h
    exact eq_zero_of_bytes h hdata hcheck
  · have hcmd := extractLsb'_eq_zero_of_and hm (lo := 16) (by decide)
    have hcheck := extractLsb'_eq_zero_of_and hm (lo := 0) (by decide)
    rw [hcheck, hcmd, h0, BitVec.zero_xor, eq_comm, hT] at h
    exact eq_zero_of_bytes hcmd h hcheck
  · have hcmd := extractLsb'_eq_zero_of_and hm (lo := 16) (by decide)
    have hdata := extractLsb'_eq_zero_of_and hm (lo := 8) (by decide)
    rw [hcmd, hdata, h0, BitVec.zero_xor, h0] at h
    exact eq_zero_of_bytes hcmd hdata h

/-- Settles O19: an error escapes when its syndrome is 0x00; then its weight is even and not 2, and it spans two bytes or
more. -/
theorem lightFrameErrorsAreDetected : Obligations.LightFrameErrorsAreDetected := by
  intro F E hF
  refine ⟨(wellFormed_xor_iff hF E).trans syndrome_eq_zero_iff, fun hE hclass => ?_⟩
  rw [← Bool.not_eq_true, wellFormed_xor_iff hF E]
  intro hescapes
  have heven := even_weight_of_syndrome hescapes
  have htwo := weight_ne_two_of_syndrome hescapes
  have hzero : weight E ≠ 0 := fun h => hE (eq_zero_of_weight h)
  rcases hclass with hlight | hodd | hbyte
  · omega
  · omega
  · exact hE (eq_zero_of_one_byte hescapes hbyte)

end Sys2Proof.Proofs.PecFamily
end

section
/-! PROOFS of the frame family (spec/41_frame_transactions.md): command bytes (R120, R121), the packers and the checker on
the working registers (R122 to R124), and the two transactions with their refusals (R125, R126, R128).

A command byte is the number `2 * addr + dir` (`toNat_packCmd`), and packing and unpacking are inverse (`packCmd_eq_iff`),
so a corner case about check bytes names one command byte and is then a fact about its address or direction. -/

namespace Sys2Proof.Proofs.FrameFamily

open Sys2Proof Sys2Proof.Machine Sys2Proof.Proofs.MemoryFamily Sys2Proof.Proofs.EncodingFamily Sys2Proof.Proofs.PecFamily

/-! ### Command bytes in arithmetic (R68, R120, R121) -/

/-- Shifting the address up frees the one bit that the direction takes. -/
theorem toNat_packCmd (a : Addr) (d : Bool) : (packCmd a d).toNat = 2 * a.toNat + d.toNat := by
  have hd : d.toNat < 2 ^ 1 := d.toNat_lt
  have haddr : (a.setWidth 8 <<< 1).toNat = a.toNat <<< 1 := by
    rw [BitVec.toNat_shiftLeft, BitVec.toNat_setWidth, Nat.shiftLeft_eq, Nat.shiftLeft_eq]; omega
  have hdir : ((BitVec.ofBool d).setWidth 8).toNat = d.toNat := by
    rw [BitVec.toNat_setWidth, BitVec.toNat_ofBool]; omega
  rw [packCmd, BitVec.toNat_or, haddr, hdir, ← Nat.shiftLeft_add_eq_or_of_lt hd, Nat.shiftLeft_eq, Nat.mul_comm]

theorem packCmd_eq_ofNat (a : Addr) (d : Bool) : packCmd a d = BitVec.ofNat 8 (2 * a.toNat + d.toNat) := by
  rw [← toNat_packCmd, BitVec.ofNat_toNat, BitVec.setWidth_eq]

theorem yByte_packCmd (a : Addr) (d : Bool) : yByte (packCmd a d) = BitVec.ofNat 24 (2 * a.toNat + d.toNat) := by
  rw [← toNat_packCmd, BitVec.ofNat_toNat, yByte]

/-- A command byte packs exactly the address and the direction it unpacks to. -/
theorem packCmd_eq_iff {a : Addr} {d : Bool} {c : Byte} : packCmd a d = c ↔ a = cmdAddr c ∧ d = cmdDir c := by
  constructor
  · rintro rfl
    exact ⟨(cmdAddr_packCmd a d).symm, (cmdDir_packCmd a d).symm⟩
  · rintro ⟨rfl, rfl⟩
    exact packCmd_fields c

theorem cmdAddr_eq_ofNat (c : Byte) : cmdAddr c = BitVec.ofNat 7 (c.toNat / 2) := by
  rw [cmdAddr, BitVec.extractLsb', Nat.shiftRight_eq_div_pow]

theorem cmdDir_eq_beq (c : Byte) : cmdDir c = (c.toNat % 2 == 1) := by
  rw [cmdDir, BitVec.getLsbD, Nat.testBit_zero]
  rfl

/-- A byte is the number its address and its direction make. -/
theorem two_mul_cmdAddr_add_cmdDir (c : Byte) : 2 * (cmdAddr c).toNat + (cmdDir c).toNat = c.toNat := by
  rw [← toNat_packCmd, packCmd_fields]

theorem toNat_yCommand (a : Addr) (d : Bool) : (yCommand a d).toNat = a.toNat + 256 * d.toNat := by
  have ha : a.toNat < 2 ^ 7 := a.isLt
  have hhigh : (0#15 ++ BitVec.ofBool d ++ 0#1).toNat = 2 * d.toNat := by cases d <;> rfl
  refine (BitVec.toNat_append _ a).trans ?_
  rw [← Nat.shiftLeft_add_eq_or_of_lt ha, hhigh, Nat.shiftLeft_eq]
  omega

theorem yCommand_unpacked (c : Byte) :
    yCommand (cmdAddr c) (cmdDir c) = BitVec.ofNat 24 (c.toNat / 2 + 256 * (c.toNat % 2)) := by
  have hparts := two_mul_cmdAddr_add_cmdDir c
  have hdir : (cmdDir c).toNat < 2 := (cmdDir c).toNat_lt
  have hdiv : (cmdAddr c).toNat = c.toNat / 2 := by omega
  have hmod : (cmdDir c).toNat = c.toNat % 2 := by omega
  rw [← hdiv, ← hmod, ← toNat_yCommand, BitVec.ofNat_toNat, BitVec.setWidth_eq]

/-- Settles O20: the command byte is the number `2 * addr + dir`, in the response byte and in `y`. -/
theorem cmdPackDoublesTheAddress : Obligations.CmdPackDoublesTheAddress := by
  refine ⟨fun w hfn => by simp [decode, decodeReq, hfn], fun s a d => ?_⟩
  rw [← yByte_packCmd, ← packCmd_eq_ofNat]
  rfl

/-- Settles O21: unpacking is division by 2, and a byte is what its two parts pack to. -/
theorem cmdUnpackInvertsCmdPack : Obligations.CmdUnpackInvertsCmdPack := by
  refine ⟨fun w hfn => by simp [decode, decodeReq, hfn], fun s c => ?response,
    fun a d => ⟨cmdAddr_packCmd a d, cmdDir_packCmd a d⟩, packCmd_fields⟩
  case response =>
    rw [← yCommand_unpacked, ← cmdAddr_eq_ofNat, ← cmdDir_eq_beq]
    rfl

/-! ### Packing and checking on the working registers (R122 to R124) -/

theorem exec_frameWr (a : Addr) (d : Byte) (s : State) :
    exec (.frameWr a d) s = .next (respondWrite (afterPack s a d)) := rfl

theorem exec_frameChk (a : Addr) (d k : Byte) (s : State) :
    exec (.frameChk a d k) s =
      .next (respond (yPair (readCheck s a d) d) (readCheck s a d != k) (.byte d) (afterCheck s a d k)) := by
  change Host.Outcome.next (respond _ _ _ (checkReceived a d k s)) = _
  rw [checkReceived_eq]
  rfl

/-- The frame of a write carries the check byte of its other two bytes (R61, R62). -/
theorem writeFrameWord_wellFormed (s : State) (a : Addr) (d : Byte) :
    frameWellFormed s.params (writeFrameWord s a d) = true :=
  (frameWellFormed_mkFrame _ _ d _).trans (beq_self_eq_true _)

/-- 0x41, the only command byte whose check byte for data 0x00 is 0x00, is a read command (R106). -/
theorem writeCheck_zero_ne_zero {s : State} (hP : s.params = Params.hardware) (a : Addr) :
    writeCheck s a 0x00 ≠ 0x00 := by
  rw [writeCheck, hP, ne_eq, pecCheck_hardware_zero_iff, packCmd_eq_iff]
  rintro ⟨-, hdir⟩
  cases hdir

/-- 0x41 reads address 0x20, which no register of this hardware has (R106, R124). -/
theorem readCheck_zero_ne_zero {s : State} (hP : s.params = Params.hardware) {a : Addr} (ha : a ≤ 0x0B) :
    readCheck s a 0x00 ≠ 0x00 := by
  rw [readCheck, hP, ne_eq, pecCheck_hardware_zero_iff, packCmd_eq_iff]
  rintro ⟨rfl, -⟩
  exact absurd ha (by decide)

/-- With the data byte fixed the check byte determines the command byte (R108 (b)). -/
theorem pecCheck_hardware_cmd_injective (d : Byte) : Function.Injective fun c => pecCheck Params.hardware c d := by
  obtain ⟨-, -, hbijective⟩ := checkByteIsAffineAndBijective
  exact (hbijective d).injective

/-- Data 0xFF has check byte 0xFF only with command byte 0x11 (R124). -/
theorem pecCheck_hardware_ones_iff (c : Byte) : pecCheck Params.hardware c 0xFF = 0xFF ↔ c = 0x11 := by
  have hones : pecCheck Params.hardware 0x11 0xFF = 0xFF := by decide
  refine ⟨fun h => pecCheck_hardware_cmd_injective 0xFF (h.trans hones.symm), ?_⟩
  rintro rfl
  exact hones

theorem readCheck_ones_iff {s : State} (hP : s.params = Params.hardware) (a : Addr) :
    readCheck s a 0xFF = 0xFF ↔ a = 0x08 := by
  rw [readCheck, hP, pecCheck_hardware_ones_iff, packCmd_eq_iff]
  exact and_iff_left rfl

/-- Settles O22: the packer writes the check byte of the two bytes it packs, and a write command is never 0x41. -/
theorem frameWrPacksAWellFormedFrame : Obligations.FrameWrPacksAWellFormedFrame :=
  ⟨fun w hfn => by simp [decode, decodeReq, hfn],
    fun s a d => ⟨exec_frameWr a d s, writeFrameWord_wellFormed s a d, fun hP => writeCheck_zero_ne_zero hP a⟩⟩

/-- Settles O23: a read command is `2 * addr + 1`. -/
theorem frameRdcmdPacksTheReadCommand : Obligations.FrameRdcmdPacksTheReadCommand := by
  refine ⟨fun w hfn => by simp [decode, decodeReq, hfn], fun s a => ?_⟩
  have hbyte : BitVec.ofNat 8 (2 * a.toNat + 1) = packCmd a true := (packCmd_eq_ofNat a true).symm
  have hy : BitVec.ofNat 24 (2 * a.toNat + 1) = yByte (packCmd a true) := (yByte_packCmd a true).symm
  rw [hbyte, hy]
  rfl

/-- Settles O24: the check compares with the computed byte; 0x41 and 0x11 are the command bytes of the two corner cases. -/
theorem frameChkComparesAndReturnsTheData : Obligations.FrameChkComparesAndReturnsTheData :=
  ⟨fun w hfn => by simp [decode, decodeReq, hfn],
    fun s a d k => ⟨exec_frameChk a d k s,
      fun hP => ⟨fun _ hhi => readCheck_zero_ne_zero hP hhi, readCheck_ones_iff hP a⟩⟩⟩

/-! ### The transactions (R125, R126, R128) -/

/-- What a read that withholds nothing leaves and answers, whatever the device answered (R126). -/
theorem respondRead_receiveRead (s : State) (a : Addr) (hopen : s.params.failClosed = false) :
    ∃ (x data check : Byte) (script : List Byte) (drawn : Nat) (dev : RefDevice),
      respondRead (receiveRead a s) = { afterRead s a x data check with
        script := script, drawn := drawn, dev := dev,
        resp := ⟨0x00#8 ++ check ++ data, readCheck s a data != check, false, .byte data⟩ } := by
  obtain ⟨x, data, check, script, drawn, dev, hread⟩ : ∃ x data check script drawn dev,
      receiveRead a s = { afterRead s a x data check with script := script, drawn := drawn, dev := dev } :=
    ⟨_, _, _, _, _, _, receiveRead_eq a s⟩
  refine ⟨x, data, check, script, drawn, dev, ?_⟩
  rw [hread, respondRead_of_not_withheld (by simp [afterRead, hopen])]
  rfl

theorem exec_get_of_known {s : State} {a : Addr} (h : (findReg s.regtab a).isSome = true) :
    ∃ kind, exec (.get a) s = .next (respondTyped kind (receiveRead a s)) := by
  obtain ⟨row, hrow⟩ := Option.isSome_iff_exists.mp h
  refine ⟨row.kind, ?_⟩
  change Host.Outcome.next (getReg a s) = _
  rw [getReg, hrow]

/-- Fail-closed, a mismatching read answers its check byte and the flag, and no data (R128, log entry 14). -/
theorem respondRead_of_withheld {s : State} (h : (s.params.failClosed && s.mismatch) = true) :
    respondRead s = respond (yPair s.rxchk 0x00#8) true .nothing s := by
  rw [respondRead, h]
  exact if_pos rfl

/-- Fail-closed, a mismatching get answers the flag alone (R128, log entry 14). -/
theorem respondTyped_of_withheld {s : State} (h : (s.params.failClosed && s.mismatch) = true) (kind : Kind) :
    respondTyped kind s = respond 0 true .nothing s := by
  rw [respondTyped, h]
  exact if_pos rfl

/-- Settles O25: the write transaction of a read-write register, whatever is received; any other address is refused. -/
theorem writeSendsOneFrame : Obligations.WriteSendsOneFrame := by
  refine ⟨fun w hfn => by simp [decode, decodeReq, hfn], fun s a d => ⟨fun hw => ?sent, fun hw => ?refused⟩⟩
  case sent =>
    obtain ⟨x, y, z, script, drawn, dev, hsend⟩ := respondWrite_sendWrite s a d
    refine ⟨x, y, z, 24, script, drawn, dev, ?_⟩
    rw [exec_write_of_writable hw, hsend]
    rfl
  case refused => exact congrArg Host.Outcome.next (writeReg_of_not_writable hw d)

/-- Settles O26: the read transaction of a register, whatever is received; any other address is refused. -/
theorem readReturnsTheReceivedByte : Obligations.ReadReturnsTheReceivedByte := by
  refine ⟨fun w hfn => by simp [decode, decodeReq, hfn], fun s a => ⟨fun hr hopen => ?received, fun hr => ?refused⟩⟩
  case received =>
    obtain ⟨x, data, check, script, drawn, dev, hread⟩ := respondRead_receiveRead s a hopen
    refine ⟨x, data, check, 24, script, drawn, dev, ?_⟩
    rw [exec_read_of_known hr, hread]
    rfl
  case refused => exact congrArg Host.Outcome.next (readReg_of_unknown hr)

/-- Settles O30: both operations make the same read transaction, and withhold its data on a mismatch. -/
theorem failClosedWithholdsTheData : Obligations.FailClosedWithholdsTheData := by
  intro s a x data check rest horacle hr hclosed hne
  have hread := receiveRead_oracle a x data check rest s horacle
  have hwithheld : ((receiveRead a s).params.failClosed && (receiveRead a s).mismatch) = true := by
    rw [hread]
    exact Bool.and_eq_true_iff.mpr ⟨hclosed, bne_iff_ne.mpr hne⟩
  refine ⟨?read, ?get⟩
  case read =>
    rw [exec_read_of_known hr, respondRead_of_withheld hwithheld, hread]
    rfl
  case get =>
    obtain ⟨kind, hget⟩ := exec_get_of_known hr
    rw [hget, respondTyped_of_withheld hwithheld, hread]
    rfl

end Sys2Proof.Proofs.FrameFamily
end

section
/-! PROOFS of the field converters (spec/42_field_converters.md): the sign-magnitude pair (R141 to R143), the biased pair
(R144 to R146), the raw pair (R147, R148), and the FLAGS kinds of R149.

Each converter of this hardware is first brought to arithmetic: a decoder by its equation (`sm7Decode_eq`, `b5Decode_eq`),
an encoder as the code of the clamped value (`sm7Encode_eq`, `b5Encode_eq`). A pair's laws then follow from its two
compositions: decoding an encoded value is the clamp, and encoding a decoded byte keeps the bits the decoder reads. -/

namespace Sys2Proof.Proofs.FieldFamily

open Sys2Proof Sys2Proof.Machine

/-! ### Integers and bytes (R6, R7) -/

theorem clamp_eq_max_min (v : Int) {lo hi : Int} (h : lo ≤ hi) : clamp v lo hi = max lo (min hi v) := by
  unfold clamp
  split
  · omega
  · split <;> omega

theorem toNat_u8 {v : Int} (hlo : 0 ≤ v) (hhi : v < 256) : ((u8 v).toNat : Int) = v := by
  rw [u8, BitVec.toNat_ofInt]
  omega

theorem toInt_u8 {v : Int} (hlo : -128 ≤ v) (hhi : v < 128) : (u8 v).toInt = v := by
  rw [u8, BitVec.toInt_ofInt]
  exact Int.bmod_eq_of_le hlo hhi

theorem u8_toNat (b : Byte) : u8 (b.toNat : Int) = b := by
  rw [u8, BitVec.ofInt_natCast, BitVec.ofNat_toNat, BitVec.setWidth_eq]

/-- A byte is determined by its number. -/
theorem eq_u8_iff {b : Byte} {v : Int} (hlo : 0 ≤ v) (hhi : v < 256) : b = u8 v ↔ (b.toNat : Int) = v := by
  constructor
  · rintro rfl
    exact toNat_u8 hlo hhi
  · rintro rfl
    exact (u8_toNat b).symm

/-- A bit of a byte, as the parity of a quotient. -/
theorem getLsbD_eq_true_iff (b : Byte) (k : Nat) : b.getLsbD k = true ↔ b.toNat / 2 ^ k % 2 = 1 := by
  rw [BitVec.getLsbD, Nat.testBit_eq_decide_div_mod_eq, decide_eq_true_iff]

/-- The low `n` bits of a byte, as a remainder. -/
theorem toNat_extractLow (b : Byte) (n : Nat) : (b.extractLsb' 0 n).toNat = b.toNat % 2 ^ n := by
  rw [BitVec.extractLsb'_toNat, Nat.shiftRight_zero]

/-- A mask of `n` low bits leaves a remainder. -/
theorem toNat_and_lowMask (b : Byte) {m : Byte} {n : Nat} (hm : m.toNat = 2 ^ n - 1) :
    (b &&& m).toNat = b.toNat % 2 ^ n := by
  rw [BitVec.toNat_and, hm, Nat.and_two_pow_sub_one_eq_mod]

theorem and_lowMask_of_lt {b m : Byte} {n : Nat} (hm : m.toNat = 2 ^ n - 1) (hb : b.toNat < 2 ^ n) : b &&& m = b :=
  BitVec.eq_of_toNat_eq ((toNat_and_lowMask b hm).trans (Nat.mod_eq_of_lt hb))

/-- Setting the bit above an `n`-bit number adds its weight. -/
theorem toNat_or_of_lt {m b : Byte} {n : Nat} (hm : m.toNat = 2 ^ n) (hb : b.toNat < 2 ^ n) :
    (m ||| b).toNat = 2 ^ n + b.toNat := by
  rw [BitVec.toNat_or, hm]
  simpa only [Nat.mul_one] using (Nat.two_pow_add_eq_or_of_lt hb 1).symm

/-! ### The sign-magnitude converters (R141 to R143) -/

/-- The value of `SM7.DEC` (R141): the sign is bit 6 and the magnitude the six bits below it. -/
theorem sm7Decode_eq (b : Byte) :
    sm7Decode .signMagnitude b =
      if b.toNat / 64 % 2 = 1 then -((b.toNat % 64 : Nat) : Int) else ((b.toNat % 64 : Nat) : Int) := by
  simp only [sm7Decode, getLsbD_eq_true_iff, toNat_extractLow, Nat.reducePow]

/-- The sign-magnitude byte of a legal value, by arithmetic. -/
def sm7Code (v : Int) : Byte := if 0 ≤ v then u8 v else u8 (64 - v)

theorem toNat_sm7Code {v : Int} (hlo : -63 ≤ v) (hhi : v ≤ 63) :
    ((sm7Code v).toNat : Int) = if 0 ≤ v then v else 64 - v := by
  unfold sm7Code
  split <;> exact toNat_u8 (by omega) (by omega)

/-- Setting bit 6 of the magnitude `-v` gives the number `64 - v`. -/
theorem or_0x40_magnitude {v : Int} (hlo : -63 ≤ v) (hneg : v < 0) : 0x40#8 ||| u8 (-v) = u8 (64 - v) := by
  have hmag : ((u8 (-v)).toNat : Int) = -v := toNat_u8 (by omega) (by omega)
  rw [eq_u8_iff (by omega) (by omega), toNat_or_of_lt (n := 6) rfl (by omega)]
  omega

/-- `SM7.ENC` clamps and encodes (R142). -/
theorem sm7Encode_eq (val : Byte) : sm7Encode .signMagnitude val = sm7Code (max (-63) (min 63 val.toInt)) := by
  have hclamp : clamp (s8 val) Config.sm7Min Config.sm7Max = max (-63) (min 63 val.toInt) :=
    clamp_eq_max_min _ (by decide)
  simp only [sm7Encode, hclamp, sm7Code]
  split
  · rfl
  · exact or_0x40_magnitude (by omega) (by omega)

/-- A legal value is encoded unclamped. -/
theorem sm7Encode_u8 {v : Int} (hlo : -63 ≤ v) (hhi : v ≤ 63) : sm7Encode .signMagnitude (u8 v) = sm7Code v := by
  have hval : max (-63) (min 63 (u8 v).toInt) = v := by
    rw [toInt_u8 (by omega) (by omega)]
    omega
  rw [sm7Encode_eq, hval]

theorem sm7Decode_sm7Code {v : Int} (hlo : -63 ≤ v) (hhi : v ≤ 63) : sm7Decode .signMagnitude (sm7Code v) = v := by
  have hcode := toNat_sm7Code hlo hhi
  rw [sm7Decode_eq]
  split at hcode <;> split <;> omega

/-- Every decoded value is legal (R143 (d)). -/
theorem sm7Decode_mem_range (b : Byte) : -63 ≤ sm7Decode .signMagnitude b ∧ sm7Decode .signMagnitude b ≤ 63 := by
  rw [sm7Decode_eq]
  split <;> omega

/-- Decoding an encoded value is the clamp (R143 (a)). -/
theorem sm7Decode_sm7Encode (v : Byte) :
    sm7Decode .signMagnitude (sm7Encode .signMagnitude v) = max (-63) (min 63 v.toInt) := by
  rw [sm7Encode_eq, sm7Decode_sm7Code (by omega) (by omega)]

theorem sm7Decode_sm7Encode_of_legal {v : Byte} (hlo : -63 ≤ v.toInt) (hhi : v.toInt ≤ 63) :
    sm7Decode .signMagnitude (sm7Encode .signMagnitude v) = v.toInt := by
  rw [sm7Decode_sm7Encode]
  omega

/-- Encoding a decoded byte clears bit 7 and turns negative zero into zero (R143 (b)). -/
theorem sm7Encode_sm7Decode (b : Byte) :
    sm7Encode .signMagnitude (u8 (sm7Decode .signMagnitude b)) = if b &&& 0x7F = 0x40 then 0x00 else b &&& 0x7F := by
  have hbits : (b &&& 0x7F).toNat = b.toNat % 128 := toNat_and_lowMask b (n := 7) rfl
  obtain ⟨hlo, hhi⟩ := sm7Decode_mem_range b
  have hcode := toNat_sm7Code hlo hhi
  have hval := sm7Decode_eq b
  rw [sm7Encode_u8 hlo hhi]
  apply BitVec.eq_of_toNat_eq
  by_cases hzero : b &&& 0x7F = 0x40
  case pos =>
    have hb : b.toNat % 128 = 64 := by rw [← hbits, hzero]; rfl
    rw [if_pos hzero]
    change _ = 0
    split at hcode <;> split at hval <;> omega
  case neg =>
    have hb : b.toNat % 128 ≠ 64 := fun h => hzero (BitVec.eq_of_toNat_eq (hbits.trans h))
    rw [if_neg hzero, hbits]
    split at hcode <;> split at hval <;> omega

/-- The zeros of `SM7.DEC`: zero and negative zero (R143 (d)). -/
theorem sm7Decode_eq_zero_iff (b : Byte) :
    sm7Decode .signMagnitude b = 0 ↔ (b &&& 0x7F = 0x00 ∨ b &&& 0x7F = 0x40) := by
  have hbits : (b &&& 0x7F).toNat = b.toNat % 128 := toNat_and_lowMask b (n := 7) rfl
  rw [← BitVec.toNat_inj, ← BitVec.toNat_inj, hbits, sm7Decode_eq]
  change _ ↔ b.toNat % 128 = 0 ∨ b.toNat % 128 = 64
  split <;> omega

theorem exec_sm7Dec (b : Byte) (s : State) :
    exec (.sm7Dec b) s =
      .next (respond (yByte (u8 (sm7Decode s.params.sm7Variant b))) false (.value (sm7Decode s.params.sm7Variant b)) s) :=
  rfl

theorem exec_sm7Enc (v : Byte) (s : State) :
    exec (.sm7Enc v) s =
      .next (respond (yByte (sm7Encode s.params.sm7Variant v)) false (.byte (sm7Encode s.params.sm7Variant v)) s) :=
  rfl

/-- Settles O32: the decoded value is read off bits 6 and 5:0. -/
theorem sm7DecReturnsTheSignedMagnitude : Obligations.Sm7DecReturnsTheSignedMagnitude := by
  refine ⟨fun w hfn => by simp [decode, decodeReq, hfn], fun s b hvariant => ⟨_, sm7Decode_eq b, ?_⟩⟩
  rw [exec_sm7Dec, hvariant]
  rfl

/-- Settles O33: the encoder answers the code of the clamped value. -/
theorem sm7EncClampsAndEncodes : Obligations.Sm7EncClampsAndEncodes := by
  refine ⟨fun w hfn => by simp [decode, decodeReq, hfn], fun s v hvariant => ⟨_, _, rfl, sm7Encode_eq v, ?_⟩⟩
  rw [exec_sm7Enc, hvariant]
  rfl

/-- Settles O34: decoding after encoding is the clamp, so encoding is injective and decoding surjective on the legal
values; encoding after decoding keeps a canonical byte, so every canonical byte is a code. -/
theorem sm7ConvertersRoundTrip : Obligations.Sm7ConvertersRoundTrip := by
  refine ⟨sm7Decode_sm7Encode, sm7Encode_sm7Decode, fun v w hv hv' hw hw' heq => ?injective,
    fun b => ⟨?code, ?canonical⟩, fun v hv hv' => ⟨_, sm7Decode_sm7Encode_of_legal hv hv'⟩, sm7Decode_mem_range,
    sm7Decode_eq_zero_iff⟩
  case injective =>
    have hint : v.toInt = w.toInt := by
      rw [← sm7Decode_sm7Encode_of_legal hv hv', heq, sm7Decode_sm7Encode_of_legal hw hw']
    exact BitVec.eq_of_toInt_eq hint
  case code =>
    rintro ⟨v, rfl⟩
    have hcode := toNat_sm7Code (v := max (-63) (min 63 v.toInt)) (by omega) (by omega)
    rw [ne_eq, ← BitVec.toNat_inj, sm7Encode_eq]
    change _ ∧ ¬ _ = 64
    split at hcode <;> omega
  case canonical =>
    rintro ⟨hlt, hne⟩
    have hlow : b &&& 0x7F = b := and_lowMask_of_lt (n := 7) rfl hlt
    exact ⟨_, (sm7Encode_sm7Decode b).trans (by rw [hlow, if_neg hne])⟩

/-! ### The biased converters (R144 to R146) -/

/-- The value of `B5.DEC` (R145); the two's complement of a nibble is its negation modulo 16. -/
theorem b5Decode_eq (b : Byte) :
    b5Decode .document b =
      ((if b.toNat / 16 % 2 = 1 then b.toNat % 16 else 16 + (16 - b.toNat % 16) % 16 : Nat) : Int) := by
  simp only [b5Decode, getLsbD_eq_true_iff, ← BitVec.neg_eq_not_add, BitVec.toNat_neg, toNat_extractLow, Nat.reducePow,
    Config.b5Bias]
  split <;> rfl

/-- The biased byte of a legal value, by arithmetic. -/
def b5Code (v : Int) : Byte := if 16 ≤ v then u8 ((32 - v) % 16) else u8 (v + 16)

theorem toNat_b5Code {v : Int} (hlo : 0 ≤ v) (hhi : v ≤ 31) :
    ((b5Code v).toNat : Int) = if 16 ≤ v then (32 - v) % 16 else v + 16 := by
  unfold b5Code
  split <;> exact toNat_u8 (by omega) (by omega)

/-- The two's complement of `v` in a nibble. -/
theorem complement_low_nibble {v : Int} (hlo : 0 ≤ v) (hhi : v ≤ 31) :
    (~~~(u8 v) + 1#8) &&& 0x0F#8 = u8 ((32 - v) % 16) := by
  have hbyte : ((u8 v).toNat : Int) = v := toNat_u8 hlo (by omega)
  rw [eq_u8_iff (by omega) (by omega), toNat_and_lowMask _ (n := 4) rfl, ← BitVec.neg_eq_not_add, BitVec.toNat_neg]
  omega

/-- Setting bit 4 of a nibble adds the bias. -/
theorem low_nibble_or_0x10 {v : Int} (hlo : 0 ≤ v) (hhi : v < 16) : (u8 v &&& 0x0F#8) ||| 0x10#8 = u8 (v + 16) := by
  have hbyte : ((u8 v).toNat : Int) = v := toNat_u8 hlo (by omega)
  have hnib := toNat_and_lowMask (u8 v) (m := 0x0F#8) (n := 4) rfl
  rw [eq_u8_iff (by omega) (by omega), BitVec.or_comm, toNat_or_of_lt (n := 4) rfl (by omega), hnib]
  omega

/-- `B5.ENC` clamps and encodes (R144). -/
theorem b5Encode_eq (val : Byte) : b5Encode .document val = b5Code (max 0 (min 31 val.toInt)) := by
  have hclamp : clamp (s8 val) Config.b5Min Config.b5Max = max 0 (min 31 val.toInt) :=
    clamp_eq_max_min _ (by decide)
  simp only [b5Encode, hclamp, Config.b5Bias, b5Code]
  split
  · exact complement_low_nibble (by omega) (by omega)
  · exact low_nibble_or_0x10 (by omega) (by omega)

/-- A legal value is encoded unclamped. -/
theorem b5Encode_u8 {v : Int} (hlo : 0 ≤ v) (hhi : v ≤ 31) : b5Encode .document (u8 v) = b5Code v := by
  have hval : max 0 (min 31 (u8 v).toInt) = v := by
    rw [toInt_u8 (by omega) (by omega)]
    omega
  rw [b5Encode_eq, hval]

theorem b5Decode_b5Code {v : Int} (hlo : 0 ≤ v) (hhi : v ≤ 31) : b5Decode .document (b5Code v) = v := by
  have hcode := toNat_b5Code hlo hhi
  rw [b5Decode_eq]
  split at hcode <;> split <;> omega

/-- Every decoded value is legal. -/
theorem b5Decode_mem_range (b : Byte) : 0 ≤ b5Decode .document b ∧ b5Decode .document b ≤ 31 := by
  rw [b5Decode_eq]
  split <;> omega

/-- Decoding an encoded value is the clamp (R146 (a)). -/
theorem b5Decode_b5Encode (v : Byte) : b5Decode .document (b5Encode .document v) = max 0 (min 31 v.toInt) := by
  rw [b5Encode_eq, b5Decode_b5Code (by omega) (by omega)]

theorem b5Decode_b5Encode_of_legal {v : Byte} (h : v.toNat ≤ 31) :
    b5Decode .document (b5Encode .document v) = (v.toNat : Int) := by
  rw [b5Decode_b5Encode, BitVec.toInt_eq_toNat_of_lt (by omega)]
  omega

/-- Encoding a decoded byte clears bits 7:5 (R146 (b)). -/
theorem b5Encode_b5Decode (b : Byte) : b5Encode .document (u8 (b5Decode .document b)) = b &&& 0x1F := by
  obtain ⟨hlo, hhi⟩ := b5Decode_mem_range b
  have hcode := toNat_b5Code hlo hhi
  have hval := b5Decode_eq b
  rw [b5Encode_u8 hlo hhi]
  apply BitVec.eq_of_toNat_eq
  refine Eq.trans ?_ (toNat_and_lowMask b (n := 5) rfl).symm
  split at hcode <;> split at hval <;> omega

theorem exec_b5Dec (b : Byte) (s : State) :
    exec (.b5Dec b) s =
      .next (respond (yByte (u8 (b5Decode s.params.b5Variant b))) false (.value (b5Decode s.params.b5Variant b)) s) :=
  rfl

theorem exec_b5Enc (v : Byte) (s : State) :
    exec (.b5Enc v) s =
      .next (respond (yByte (b5Encode s.params.b5Variant v)) false (.byte (b5Encode s.params.b5Variant v)) s) :=
  rfl

theorem yByte_u8 {n : Nat} (h : n < 256) : yByte (u8 (n : Int)) = BitVec.ofNat 24 n := by
  rw [yByte, u8, BitVec.ofInt_natCast, BitVec.setWidth_ofNat_of_le_of_lt (by decide) h]

/-- Settles O35: the encoder answers the code of the clamped value. -/
theorem b5EncClampsAndRebiases : Obligations.B5EncClampsAndRebiases := by
  refine ⟨fun w hfn => by simp [decode, decodeReq, hfn], fun s v hvariant => ⟨_, _, rfl, b5Encode_eq v, ?_⟩⟩
  rw [exec_b5Enc, hvariant]
  rfl

/-- Settles O36: the decoded value is a natural number below 32, so `y` holds it unreduced. -/
theorem b5DecReturnsTheUnbiasedValue : Obligations.B5DecReturnsTheUnbiasedValue := by
  refine ⟨fun w hfn => by simp [decode, decodeReq, hfn], fun s b hvariant => ⟨_, rfl, ?_⟩⟩
  rw [exec_b5Dec, hvariant, b5Decode_eq, yByte_u8 (by split <;> omega)]
  rfl

/-- Settles O37: decoding after encoding is the clamp, so encoding is injective on the legal values; encoding after
decoding keeps five bits, so every five-bit byte is a code. -/
theorem b5ConvertersRoundTrip : Obligations.B5ConvertersRoundTrip := by
  refine ⟨b5Decode_b5Encode, b5Encode_b5Decode, fun v w hv hw heq => ?injective, fun b => ⟨?code, fun hb => ?fiveBits⟩⟩
  case injective =>
    have hint : (v.toNat : Int) = w.toNat := by
      rw [← b5Decode_b5Encode_of_legal hv, heq, b5Decode_b5Encode_of_legal hw]
    exact BitVec.eq_of_toNat_eq (Int.ofNat_inj.mp hint)
  case code =>
    rintro ⟨v, -, rfl⟩
    have hcode := toNat_b5Code (v := max 0 (min 31 v.toInt)) (by omega) (by omega)
    rw [b5Encode_eq]
    split at hcode <;> omega
  case fiveBits =>
    obtain ⟨hlo, hhi⟩ := b5Decode_mem_range b
    have hlow : b &&& 0x1F = b := and_lowMask_of_lt (n := 5) rfl (by omega)
    have hlegal := toNat_u8 hlo (by omega)
    exact ⟨u8 (b5Decode .document b), by omega, (b5Encode_b5Decode b).trans hlow⟩

/-! ### The raw converters (R147, R148) -/

/-- Settles O38: the response carries the operand itself, and no other field is written. -/
theorem rawConvertersPassTheByte : Obligations.RawConvertersPassTheByte :=
  ⟨fun w hfn => by simp [decode, decodeReq, hfn], fun w hfn => by simp [decode, decodeReq, hfn],
    fun _ _ => ⟨rfl, rfl⟩⟩

/-! ### The FLAGS kinds (R149, R160) -/

section FlagKinds
variable {r : FlagReg} (hr : r ≠ .config1) (fm : FlagMap) (b : Byte)
include hr

/-- Only MFR_CONFIG1 answers more than its flags (R165). -/
theorem unpackFlags_of_ne_config1 :
    unpackFlags fm r b = ⟨(flagMask fm r b).setWidth 13, .flags (activeFlags fm r b)⟩ := by
  cases r
  case config1 => exact absurd rfl hr
  all_goals rfl

/-- Only MFR_CONFIG1 has selector bits, so elsewhere a mapped bit that is set reports its flag. -/
theorem flagActive_of_ne_config1 (k : Nat) : flagActive fm r b k = ((flagAt fm r k).isSome && b.getLsbD k) := by
  cases r
  case config1 => exact absurd rfl hr
  all_goals rfl

theorem flagMask_bit_of_ne_config1 {k : Nat} (hk : k < 8) :
    (flagMask fm r b).getLsbD k = true ↔ (flagAt fm r k).isSome = true ∧ b.getLsbD k = true := by
  rw [flagMask_bit fm r b k hk, flagActive_of_ne_config1 hr, Bool.and_eq_true]

theorem mem_activeFlags_of_ne_config1 (f : Flag) :
    f ∈ activeFlags fm r b ↔ ∃ k, k < 8 ∧ flagAt fm r k = some f ∧ b.getLsbD k = true := by
  rw [mem_activeFlags]
  refine exists_congr fun k => and_congr_right fun _ => ?_
  rw [flagActive_of_ne_config1 hr, Bool.and_eq_true]
  constructor
  · rintro ⟨⟨-, hbit⟩, hflag⟩
    exact ⟨hflag, hbit⟩
  · rintro ⟨hflag, hbit⟩
    exact ⟨⟨Option.isSome_of_eq_some hflag, hbit⟩, hflag⟩

end FlagKinds

/-- Settles O60: without selector bits the mask and the set are those of the register's row, whatever the map. -/
theorem flagKindsDecodeByTheirMapRow : Obligations.FlagKindsDecodeByTheirMapRow :=
  fun _ fm r b hr => ⟨flagMask fm r b, activeFlags fm r b, unpackFlags_of_ne_config1 hr fm b,
    fun _ hk => flagMask_bit_of_ne_config1 hr fm b hk, mem_activeFlags_of_ne_config1 hr fm b, activeFlags_nodup fm r b⟩

end Sys2Proof.Proofs.FieldFamily
end

section
/-! PROOFS of the flag unpackers (spec/43_flag_unpack.md): the five without selectors (R161 to R164, R166) and `FLG.CONFIG1`
with its two (R165, R167).

Each operation answers with what `unpackFlags` computes for its register (`respondFlags`). For the five, the mask and the
set are those of the FLAGS kinds (`FieldFamily`); for MFR_CONFIG1 the selector fields leave the reportable bits
(`flagActive_config1_iff`) and are read as quotients and remainders of the byte's number. -/

namespace Sys2Proof.Proofs.FlagFamily

open Sys2Proof Sys2Proof.Machine Sys2Proof.Proofs.StateFamily Sys2Proof.Proofs.FieldFamily

/-! ### The unpackers without selectors (R161 to R164, R166) -/

/-- The five operations, each with the register it unpacks. -/
def plainUnpackers (b : Byte) : List (Instr × FlagReg) :=
  [(.flgFault b, .fault), (.flgOc b, .oc), (.flgNoc b, .noc), (.flgStatus b, .status), (.flgConfig2 b, .config2)]

/-- Each of the five answers with the flags of its register, and none of these is MFR_CONFIG1. -/
theorem exec_plainUnpacker {b : Byte} {row : Instr × FlagReg} (h : row ∈ plainUnpackers b) (s : State) :
    row.2 ≠ .config1 ∧ exec row.1 s = .next (respondFlags row.2 b s) := by
  simp only [plainUnpackers, List.mem_cons, List.not_mem_nil, or_false] at h
  rcases h with rfl | rfl | rfl | rfl | rfl <;> exact ⟨nofun, rfl⟩

theorem respondFlags_of_ne_config1 {r : FlagReg} (hr : r ≠ .config1) (b : Byte) (s : State) :
    respondFlags r b s = { s with
      resp := ⟨(flagMask s.flagMap r b).setWidth 24, false, false, .flags (activeFlags s.flagMap r b)⟩ } := by
  rw [respondFlags, unpackFlags_of_ne_config1 hr, BitVec.setWidth_setWidth (by decide)]
  rfl

/-- The source's property 5 (R161), by the default map's mask and set. -/
theorem exec_flgFault_0x05 {s : State} (hmap : s.flagMap = Config.flagMap) :
    exec (.flgFault 0x05) s =
      .next { s with resp := ⟨0x000005, false, false, .flags [.overTemp, .v5Undervoltage]⟩ } := by
  obtain ⟨masks, faults, -⟩ := defaultFlagMapExamples
  obtain ⟨faultMask, -⟩ := masks 0x05
  calc exec (.flgFault 0x05) s = .next (respondFlags .fault 0x05 s) := rfl
    _ = _ := by rw [respondFlags_of_ne_config1 (r := .fault) nofun, hmap, faultMask, faults]; rfl

/-- Settles O40: each operation answers with its register's mask and set, which are those of the FLAGS kinds. -/
theorem unpackersReportExactlyTheActiveFlags : Obligations.UnpackersReportExactlyTheActiveFlags := by
  refine ⟨?_, ?_, ?_, ?_, ?_, fun s b row hrow => ?answer, fun _ => exec_flgFault_0x05⟩
  case answer =>
    obtain ⟨hr, hexec⟩ := exec_plainUnpacker hrow s
    exact ⟨flagMask s.flagMap row.2 b, activeFlags s.flagMap row.2 b,
      hexec.trans (congrArg _ (respondFlags_of_ne_config1 hr b s)),
      fun _ hk => flagMask_bit_of_ne_config1 hr s.flagMap b hk, mem_activeFlags_of_ne_config1 hr s.flagMap b,
      activeFlags_nodup s.flagMap row.2 b⟩
  all_goals
    intro w hfn
    simp [decode, decodeReq, hfn]

/-! ### The selectors of MFR_CONFIG1 (R165, R167) -/

theorem ilimCode_eq_ofNat (b : Byte) : ilimCode b = BitVec.ofNat 3 b.toNat := rfl

theorem drvccCode_eq_ofNat (fm : FlagMap) (b : Byte) : drvccCode fm b = BitVec.ofNat 2 (b.toNat / 2 ^ fm.drvccLo) := by
  rw [← Nat.shiftRight_eq_div_pow]
  rfl

theorem toNat_ilimCode (b : Byte) : (ilimCode b).toNat = b.toNat % 8 := toNat_extractLow b 3

theorem toNat_drvccCode (fm : FlagMap) (b : Byte) : (drvccCode fm b).toNat = b.toNat / 2 ^ fm.drvccLo % 4 := by
  rw [drvccCode_eq_ofNat, BitVec.toNat_ofNat]

/-- A bit of MFR_CONFIG1 reports a flag when it is outside both selector fields, mapped, and set (R160, R165). -/
theorem flagActive_config1_iff (fm : FlagMap) (b : Byte) (k : Nat) :
    flagActive fm .config1 b k = true ↔
      3 ≤ k ∧ k ≠ fm.drvccLo ∧ k ≠ fm.drvccLo + 1 ∧ (flagAt fm .config1 k).isSome = true ∧ b.getLsbD k = true := by
  simp [flagActive, isSelectorBit, and_assoc]

/-- `y` of `FLG.CONFIG1` (R71): the mask in 7:0, the `ILIM` code in 10:8, the `DRVCC` code in 12:11. -/
theorem setWidth_config1Bits (drvcc : BitVec 2) (ilim : BitVec 3) (mask : Byte) :
    (drvcc ++ ilim ++ mask).setWidth 24 = 0#11 ++ drvcc ++ ilim ++ mask := by
  have hdrvcc : drvcc.setWidth 13 = 0#11 ++ drvcc := BitVec.setWidth_eq_append (by decide)
  calc (drvcc ++ ilim ++ mask).setWidth 24
      = (drvcc ++ ilim).setWidth 16 ++ mask := BitVec.setWidth_append_of_eq rfl
    _ = drvcc.setWidth 13 ++ ilim ++ mask := congrArg (· ++ mask) (BitVec.setWidth_append_of_eq rfl)
    _ = 0#11 ++ drvcc ++ ilim ++ mask := by rw [hdrvcc]

theorem exec_flgConfig1 (b : Byte) (s : State) :
    exec (.flgConfig1 b) s = .next { s with
      resp := ⟨0#11 ++ drvccCode s.flagMap b ++ ilimCode b ++ flagMask s.flagMap .config1 b, false, false,
        .config1 (activeFlags s.flagMap .config1 b) (selectIlim s.flagMap (ilimCode b))
          (selectDrvcc s.flagMap (drvccCode s.flagMap b))⟩ } := by
  rw [← setWidth_config1Bits]
  rfl

/-- Settles O41: the flags are those of the bits outside the selector fields, and each selector looks its field's number
up in its table. -/
theorem flgConfig1DecodesSelectors : Obligations.FlgConfig1DecodesSelectors := by
  refine ⟨fun w hfn => by simp [decode, decodeReq, hfn], fun s b => ?_⟩
  have hmask : ∀ k < 8, (flagMask s.flagMap .config1 b).getLsbD k = flagActive s.flagMap .config1 b k :=
    flagMask_bit s.flagMap .config1 b
  rw [← drvccCode_eq_ofNat, ← ilimCode_eq_ofNat, ← toNat_drvccCode, ← toNat_ilimCode]
  refine ⟨_, _, _, _, exec_flgConfig1 b s, fun k hk => ?bit, fun f => ?flag, activeFlags_nodup _ _ _,
    fun _ => selectIlim_of_some, selectIlim_of_none, fun _ => selectDrvcc_of_some, selectDrvcc_of_none⟩
  case bit => rw [hmask k hk, flagActive_config1_iff]
  case flag =>
    rw [mem_activeFlags]
    exact exists_congr fun k => and_congr_right fun hk => by rw [hmask k hk]

end Sys2Proof.Proofs.FlagFamily
end

section
/-! PROOFS of the register access family (spec/44_register_access.md): the generic `GET` and `SET` (R180, R181), the spelled
rows under the default `REGTAB` (R182 to R197), and the round trip through the reference device (R198).

A `GET` is a read transaction whose answer `respondTyped` decodes, and a `SET` a write transaction of the encoded byte, so
the statements combine what the transactions leave with each device (`receiveRead_eq`, `receiveRead_oracle`,
`receiveRead_reference`, `respondWrite_sendWrite`) with `DEC` and `ENC` of the register's kind. -/

namespace Sys2Proof.Proofs.AccessFamily

open Sys2Proof Sys2Proof.Machine Sys2Proof.Proofs.StateFamily Sys2Proof.Proofs.EncodingFamily Sys2Proof.Proofs.FieldFamily

/-! ### The generic operations on a register of the table (R180, R181) -/

section Registered
variable {s : State} {a : Addr} {row : RegRow}

/-- A get answers `DEC` of the byte received and the raw byte unless it withholds the data (R71, R128). -/
theorem getReg_of_not_withheld (hrow : findReg s.regtab a = some row)
    (h : (s.params.failClosed && (receiveRead a s).mismatch) = false) :
    getReg a s =
      respond (yTyped (receiveRead a s).rxdata (decodeKind s.params s.flagMap row.kind (receiveRead a s).rxdata).bits)
        (receiveRead a s).mismatch (decodeKind s.params s.flagMap row.kind (receiveRead a s).rxdata).decoded
        (receiveRead a s) := by
  obtain ⟨-, -, hmap, hparams, -⟩ := constants_eq_iff.mp (receiveRead_constants a s)
  rw [getReg, hrow]
  dsimp only
  rw [respondTyped, hmap, hparams, h]
  exact if_neg Bool.false_ne_true

theorem setReg_of_row {v d : Byte} (h : findWritable s.regtab a = some row)
    (he : encodeKind s.params row.kind v = some d) : setReg a v s = respondWrite (sendWrite a d s) := by
  rw [setReg, h]
  dsimp only
  rw [he]

/-- The row by which a register is written is the row by which it is read. -/
theorem findReg_eq_of_writable {tab : List RegRow} (h : findWritable tab a = some row) : findReg tab a = some row := by
  obtain ⟨hrow, -⟩ := Option.filter_eq_some_iff.mp h
  exact hrow

end Registered

/-- Settles O43: the read transaction of a register, whatever is received, and `DEC` of the data byte; any other address is
refused. -/
theorem getReadsThenDecodes : Obligations.GetReadsThenDecodes := by
  refine ⟨fun w hfn => by simp [decode, decodeReq, hfn, Instr.spelled],
    fun s a => ⟨fun row hrow hopen => ?decoded, fun hr => ?refused⟩⟩
  case decoded =>
    obtain ⟨x, data, check, script, drawn, dev, hread⟩ : ∃ x data check script drawn dev,
        receiveRead a s = { afterRead s a x data check with script := script, drawn := drawn, dev := dev } :=
      ⟨_, _, _, _, _, _, receiveRead_eq a s⟩
    refine ⟨x, data, check, 24, script, drawn, dev, congrArg Host.Outcome.next ?_⟩
    rw [getReg_of_not_withheld hrow (by rw [hopen, Bool.false_and]), hread]
    rfl
  case refused => exact congrArg Host.Outcome.next (getReg_of_unknown hr)

/-- Settles O45: the write transaction of the encoded byte, whatever is received; an address that is not read-write is
refused. -/
theorem setEncodesThenWrites : Obligations.SetEncodesThenWrites := by
  refine ⟨fun w hfn => by simp [decode, decodeReq, hfn, Instr.spelled],
    fun s a v => ⟨fun row d hrow hd => ?sent, fun hw => ?refused⟩⟩
  case sent =>
    obtain ⟨x, y, z, script, drawn, dev, hsend⟩ := respondWrite_sendWrite s a d
    refine ⟨x, y, z, 24, script, drawn, dev, congrArg Host.Outcome.next ?_⟩
    rw [setReg_of_row hrow hd, hsend]
    rfl
  case refused => exact congrArg Host.Outcome.next (setReg_of_not_writable hw v)

/-! ### The decode operations as `DEC` of a kind (R149) -/

/-- The decode operation of a kind: a field converter or a flag unpacker. A flag register outside the six has none. -/
def decodeOperation (kind : Kind) (b : Byte) : Option Instr :=
  match kind with
  | .raw => some (.rawDec b)
  | .sm7 => some (.sm7Dec b)
  | .b5 => some (.b5Dec b)
  | .flags .fault => some (.flgFault b)
  | .flags .oc => some (.flgOc b)
  | .flags .noc => some (.flgNoc b)
  | .flags .status => some (.flgStatus b)
  | .flags .config1 => some (.flgConfig1 b)
  | .flags .config2 => some (.flgConfig2 b)
  | .flags (.other _) => none

theorem yByte_eq_setWidth (b : Byte) : yByte b = (b.setWidth 13).setWidth 24 :=
  (BitVec.setWidth_setWidth (by decide)).symm

/-- A kind's decode operation answers `DEC` of its operand, with the packed value in the low bits of `y` (R71, R149). -/
theorem exec_decodeOperation {kind : Kind} {b : Byte} {i : Instr} (h : decodeOperation kind b = some i) (s : State) :
    exec i s = .next (respond ((decodeKind s.params s.flagMap kind b).bits.setWidth 24) false
      (decodeKind s.params s.flagMap kind b).decoded s) := by
  cases kind with
  | raw =>
    cases h
    exact congrArg (fun y => Host.Outcome.next (respond y false _ s)) (yByte_eq_setWidth _)
  | sm7 =>
    cases h
    rw [exec_sm7Dec, yByte_eq_setWidth]
    rfl
  | b5 =>
    cases h
    rw [exec_b5Dec, yByte_eq_setWidth]
    rfl
  | flags r => cases r <;> cases h <;> rfl

/-- The value packed in `y[12:0]` is read back from it. -/
theorem extract_setWidth_value (v : BitVec 13) : (v.setWidth 24).extractLsb' 0 13 = v := by
  rw [← BitVec.setWidth_eq_extractLsb' (by decide), BitVec.setWidth_setWidth_of_le _ (by decide), BitVec.setWidth_eq]

/-! ### The spelled rows under the default `REGTAB` (R182 to R197) -/

/-- Fail-open with the oracle attached, a `GET` leaves what the read transaction with its three answers leaves, and answers
`DEC` of the second (R180). -/
theorem getReg_oracle {s : State} {a : Addr} {row : RegRow} {x d k : Byte} {rest : List Byte}
    (hrow : findReg s.regtab a = some row) (hopen : s.params.failClosed = false) (h : oracleAnswers s x d k rest) :
    getReg a s =
      respond (yTyped d (decodeKind s.params s.flagMap row.kind d).bits) (readCheck s a d != k)
        (decodeKind s.params s.flagMap row.kind d).decoded (tookThree (afterRead s a x d k) rest) := by
  rw [getReg_of_not_withheld hrow (by rw [hopen, Bool.false_and]), receiveRead_oracle a x d k rest s h]
  rfl

/-- Settles O44: each spelled getter is the `GET` of its address, where the default table has the kind whose decode operation
the statement names. -/
theorem spelledGettersReadTheirRegister : Obligations.SpelledGettersReadTheirRegister := by
  intro s x d k rest ⟨i, a, c, dec⟩ hP htab horacle hmem
  obtain ⟨row, hexec, hrow, hcmd, hdec⟩ : ∃ row, exec i s = .next (getReg a s) ∧ findReg Config.regtab a = some row ∧
      packCmd a true = c ∧ decodeOperation row.kind d = some dec := by
    simp only [List.mem_cons, List.not_mem_nil, or_false, Prod.mk.injEq] at hmem
    rcases hmem with ⟨rfl, rfl, rfl, rfl⟩ | ⟨rfl, rfl, rfl, rfl⟩ | ⟨rfl, rfl, rfl, rfl⟩ | ⟨rfl, rfl, rfl, rfl⟩
      | ⟨rfl, rfl, rfl, rfl⟩ | ⟨rfl, rfl, rfl, rfl⟩ | ⟨rfl, rfl, rfl, rfl⟩ | ⟨rfl, rfl, rfl, rfl⟩ | ⟨rfl, rfl, rfl, rfl⟩
      | ⟨rfl, rfl, rfl, rfl⟩ | ⟨rfl, rfl, rfl, rfl⟩
    all_goals exact ⟨_, rfl, rfl, by decide, rfl⟩
  have hopen : s.params.failClosed = false := by rw [hP]; rfl
  rw [getReg_oracle (htab.symm ▸ hrow) hopen horacle] at hexec
  refine ⟨_, _, hexec, exec_decodeOperation hdec s, rfl, hcmd, rfl, ?packed, rfl, rfl⟩
  case packed =>
    rw [respond_resp, respond_resp, extract_setWidth_value]
    rfl

/-- Settles O46: each spelled setter is the `SET` of its address, where the default table has the kind whose encoder the
statement names. -/
theorem spelledSettersWriteTheirRegister : Obligations.SpelledSettersWriteTheirRegister := by
  intro s v ⟨i, a, c, d⟩ hP htab hmem
  obtain ⟨row, hexec, hrow, hcmd, hd⟩ : ∃ row, exec i s = exec (.set a v) s ∧ findWritable Config.regtab a = some row ∧
      packCmd a false = c ∧ encodeKind Params.hardware row.kind v = some d := by
    simp only [List.mem_cons, List.not_mem_nil, or_false, Prod.mk.injEq] at hmem
    rcases hmem with ⟨rfl, rfl, rfl, rfl⟩ | ⟨rfl, rfl, rfl, rfl⟩ | ⟨rfl, rfl, rfl, rfl⟩ | ⟨rfl, rfl, rfl, rfl⟩
      | ⟨rfl, rfl, rfl, rfl⟩
    all_goals exact ⟨_, rfl, rfl, by decide, rfl⟩
  obtain ⟨-, hset⟩ := setEncodesThenWrites
  obtain ⟨hsent, -⟩ := hset s a v
  rw [← htab] at hrow
  rw [← hP] at hd
  exact ⟨hcmd, hexec ▸ hsent row d hrow hd⟩

/-! ### `GET` after `SET` with the reference device (R198) -/

/-- The reference device holds the byte of a write transaction to one of its read-write registers (R47). -/
theorem read_sendWrite_reference {s : State} {a : Addr} (h : s.attached = .reference) (hwf : Memory.wf s.dev.mem = true)
    (ha : deviceHas a = true) (hw : (findWritable s.regtab a).isSome = true) (d : Byte) :
    Memory.read (sendWrite a d s).dev.mem a.toNat = d := by
  rw [sendWrite_dev a d s h, if_pos (Bool.and_eq_true_iff.mpr ⟨ha, hw⟩), memory_read_write _ 0 _ _ _ hwf, if_pos rfl]

/-- A `GET` from the reference device answers `DEC` of the byte stored there with no mismatch, whatever `FAIL_CLOSED` is:
the check byte it receives is the one it computes (R47, R180). -/
theorem getReg_reference_resp {s : State} {a : Addr} {row : RegRow} (h : s.attached = .reference)
    (ha : deviceHas a = true) (hrow : findReg s.regtab a = some row) {d : Byte}
    (hd : Memory.read s.dev.mem a.toNat = d) :
    (getReg a s).resp = ⟨yTyped d (decodeKind s.params s.flagMap row.kind d).bits, false, false,
      (decodeKind s.params s.flagMap row.kind d).decoded⟩ := by
  have hread := receiveRead_reference a s h ha
  have hmatch : (receiveRead a s).mismatch = false := by
    rw [hread]
    exact bne_self_eq_false _
  rw [getReg_of_not_withheld hrow (by rw [hmatch, Bool.and_false]), hmatch, hread, hd]
  rfl

section RoundTrip
variable {v d : Byte} (fm : FlagMap)

theorem decoded_sm7_of_encoded (h : encodeKind Params.hardware .sm7 v = some d) :
    (decodeKind Params.hardware fm .sm7 d).decoded = .value (max (-63) (min 63 v.toInt)) := by
  cases h
  exact congrArg Decoded.value (sm7Decode_sm7Encode v)

theorem decoded_b5_of_encoded (h : encodeKind Params.hardware .b5 v = some d) :
    (decodeKind Params.hardware fm .b5 d).decoded = .value (max 0 (min 31 v.toInt)) := by
  cases h
  exact congrArg Decoded.value (b5Decode_b5Encode v)

theorem decoded_raw_of_encoded (h : encodeKind Params.hardware .raw v = some d) :
    (decodeKind Params.hardware fm .raw d).decoded = .byte v := by
  cases h
  rfl

end RoundTrip

/-- Settles O49: the write stores the encoded byte, the read answers it, and decoding an encoded value is the clamp. -/
theorem setThenGetReturnsTheClampedValue : Obligations.SetThenGetReturnsTheClampedValue := by
  intro s a v d row hP h hwf ha hrow hd
  have hset : exec (.set a v) s = .next (respondWrite (sendWrite a d s)) :=
    congrArg Host.Outcome.next (setReg_of_row hrow hd)
  have hstored := read_sendWrite_reference h hwf ha (Option.isSome_of_eq_some hrow) d
  obtain ⟨-, hregtab, hmap, hparams, hattached⟩ := constants_eq_iff.mp (exec_constants hset)
  have hresp := getReg_reference_resp (hattached.trans h) ha (hregtab.symm ▸ findReg_eq_of_writable hrow) hstored
  rw [hmap, hparams] at hresp
  rw [hP] at hd
  refine ⟨_, _, hset, rfl, ?_⟩
  rw [hresp, hP]
  refine ⟨rfl, rfl, rfl, fun hkind => ?sm7, fun hkind => ?b5, fun hkind => ?raw⟩ <;> rw [hkind] at hd ⊢
  case sm7 => exact decoded_sm7_of_encoded s.flagMap hd
  case b5 => exact decoded_b5_of_encoded s.flagMap hd
  case raw => exact decoded_raw_of_encoded s.flagMap hd

end Sys2Proof.Proofs.AccessFamily
end

section
/-! PROOFS of the exception family (spec/60_exceptions.md): one operation reports `ChecksumMismatch` at most once, and only a
frame check that is not refused and finds a mismatch (R210, R213, R218).

The diagnostics of each event list an instruction can add are counted first: a write transaction has none, and a checked
frame has one exactly when its check byte is wrong, which is also what the check leaves in `MISMATCH`. The statement then
follows along the six shapes of `shape_of_exec`. -/

namespace Sys2Proof.Proofs.ExceptionFamily

open Sys2Proof Sys2Proof.Machine Sys2Proof.Proofs.StateFamily

/-! ### The diagnostics among the events of an operation (R211) -/

theorem diagCount_append (h es : List Event) : diagCount (h ++ es) = diagCount h + diagCount es :=
  List.countP_append

section Events
variable (s : State) (a : Addr) (d k : Byte)

/-- A write transaction reports nothing (R210). -/
theorem diagCount_writeEvents (x y z : Byte) : diagCount (writeEvents s a d x y z) = 0 := rfl

/-- A check reports once when the check byte received is not the one computed, else not at all (R211, R213). -/
theorem diagCount_readReport : diagCount (readReport s a d k) = if readCheck s a d != k then 1 else 0 := by
  unfold readReport
  by_cases h : readCheck s a d = k
  · rw [if_pos h, if_neg (by simpa using h)]
    rfl
  · rw [if_neg h, if_pos (by simpa using h)]
    rfl

/-- The transport events of a read transaction are no diagnostics, so what it reports is what its check reports. -/
theorem diagCount_readEvents (x : Byte) : diagCount (readEvents s a x d k) = diagCount (readReport s a d k) := by
  rw [readEvents, diagCount_append]
  exact Nat.zero_add _

end Events

/-! ### What each checked frame reports (R124, R126) -/

/-- From `s` to `t` one diagnostic is added when `t` has the flag `MISMATCH`, else none. -/
def ReportsMismatch (s t : State) : Prop :=
  diagCount t.hist = diagCount s.hist + if t.mismatch then 1 else 0

section Frames
variable (s : State) (a : Addr) (d k : Byte)

theorem afterCheck_reportsMismatch : ReportsMismatch s (afterCheck s a d k) := by
  change diagCount (s.hist ++ readReport s a d k) = _
  rw [diagCount_append, diagCount_readReport]
  rfl

theorem afterRead_reportsMismatch (x : Byte) : ReportsMismatch s (afterRead s a x d k) := by
  change diagCount (s.hist ++ readEvents s a x d k) = _
  rw [diagCount_append, diagCount_readEvents, diagCount_readReport]
  rfl

theorem receiveRead_reportsMismatch : ReportsMismatch s (receiveRead a s) := by
  rw [receiveRead_eq]
  exact afterRead_reportsMismatch s a _ _ _

theorem receiveFrame_reportsMismatch : ReportsMismatch s (receiveFrame a d k s) := by
  rw [receiveFrame_eq]
  exact afterRead_reportsMismatch s a d k _

theorem sendWrite_diagCount : diagCount (sendWrite a d s).hist = diagCount s.hist := by
  obtain ⟨x, y, z, hh⟩ := sendWrite_hist a d s
  rw [hh, diagCount_append, diagCount_writeEvents, Nat.add_zero]

end Frames

/-! ### One report a call (R210, R213, R218) -/

/-- Settles O50: a refusal, a pure operation and a write transaction add no diagnostic, and each of the three checked frames
adds one exactly when it leaves `MISMATCH` set. -/
theorem mismatchIsReportedOncePerCall : Obligations.MismatchIsReportedOncePerCall := by
  intro i s t h
  cases shape_of_exec h with
  | refused =>
    change diagCount s.hist = diagCount s.hist + if checksFrame i && false then 1 else 0
    rw [Bool.and_false]
    rfl
  | pure _ _ _ _ _ _ noCheck => rw [noCheck]; rfl
  | write a d _ _ noCheck => rw [noCheck]; exact sendWrite_diagCount s a d
  | check a d k _ _ isCheck => rw [isCheck]; exact afterCheck_reportsMismatch s a d k
  | read a _ _ isCheck => rw [isCheck]; exact receiveRead_reportsMismatch s a
  | frame a d k _ _ isCheck => rw [isCheck]; exact receiveFrame_reportsMismatch s a d k

end Sys2Proof.Proofs.ExceptionFamily
end

section
/-! PROOFS of the reset family (spec/70_reset_and_hazards.md): the reset event and the state it leaves (R230), and which
answers of a stuck bus pass the check (R236).

A bus that answers one byte as data and as check passes when that byte is a fixed point of the check byte. The check keeps
parity and the seed is even, so a command byte of odd weight has no fixed point. By linearity two fixed points of one
command byte differ by a fixed point of the table, 0x00 or 0xFD, so a command byte has none or two. -/

namespace Sys2Proof.Proofs.ResetFamily

open Sys2Proof Sys2Proof.Machine Sys2Proof.Proofs.MemoryFamily Sys2Proof.Proofs.PecFamily Sys2Proof.Proofs.FrameFamily
  Sys2Proof.Proofs.AccessFamily

/-! ### Reset (R230) -/

/-- The reset event is the state after reset, with the constants, the parameters and what is attached kept. -/
theorem resetEvent_eq (s : State) :
    resetEvent s = { State.reset with
      tbl := s.tbl, regtab := s.regtab, flagMap := s.flagMap, params := s.params, attached := s.attached,
      script := s.script, drawn := s.drawn, dev := s.dev } := rfl

/-- Settles O56: the working registers come from the state after reset, whose fields are the values of the rules. -/
theorem resetSetsTheWorkingRegisters : Obligations.ResetSetsTheWorkingRegisters := by
  refine ⟨fun s => ?event, resetEvent_eq State.reset, rfl, rfl, rfl, rfl, rfl, rfl, rfl, rfl, rfl, rfl⟩
  case event =>
    rw [resetEvent_eq]
    exact ⟨rfl, rfl, rfl, rfl, rfl, rfl, rfl, rfl, rfl, rfl, rfl, rfl, rfl⟩

/-- Settles O55: the printed table is the one the parameters define (R104); history, device memory and response are bare. -/
theorem resetMeetsTheInvariant : Obligations.ResetMeetsTheInvariant :=
  invariant_iff.mpr ⟨pecTableOf_hardware.symm, rfl, .inl rfl, ⟨rfl, rfl, rfl⟩, ⟨(nomatch ·), (nomatch ·)⟩⟩

/-! ### Answers that repeat one byte (R236 (c)) -/

/-- The byte passes the check when a device answers it both as data and as check. -/
def PassesEchoed (c b : Byte) : Prop := pecCheck Params.hardware c b = b

/-- The check byte has the parity of the two bytes checked: the seed has even weight. -/
theorem parity_pecCheck_hardware (c d : Byte) :
    parity (bitsDown (pecCheck Params.hardware c d) 8) = (parity (bitsDown c 8) ^^ parity (bitsDown d 8)) := by
  have hseed : parity (bitsDown Params.hardware.pecInit 8) = false := by decide
  rw [pecCheck, xor_pecXorOut_hardware, pecByteStep_msbFirst rfl, parity_pecBitsStep, pecByteStep_msbFirst rfl,
    parity_pecBitsStep, hseed, Bool.false_xor]

/-- Only a command byte of even weight lets an echo pass. -/
theorem PassesEchoed.even_command {c b : Byte} (h : PassesEchoed c b) : parity (bitsDown c 8) = false := by
  have hparity := parity_pecCheck_hardware c b
  rw [h] at hparity
  exact (Bool.xor_left_inj.mp ((Bool.false_xor _).trans hparity)).symm

/-- The table entries equal to their index. -/
theorem pecLookup_pecTable_eq_self_iff : ∀ i : Byte, pecLookup Config.pecTable i = i ↔ i = 0x00 ∨ i = 0xFD := by
  decide +kernel

/-- A change of the data byte alone changes the check byte by its table entry. -/
theorem pecCheck_hardware_xor_data (c d e : Byte) :
    pecCheck Params.hardware c (d ^^^ e) = pecCheck Params.hardware c d ^^^ pecLookup Config.pecTable e := by
  rw [pecCheck_hardware, pecCheck_hardware, ← BitVec.xor_assoc, pecLookup_pecTable_xor]

/-- With one echo that passes, the only other one differs from it by 0xFD. -/
theorem PassesEchoed.xor_iff {c b : Byte} (h : PassesEchoed c b) (e : Byte) :
    PassesEchoed c (b ^^^ e) ↔ e = 0x00 ∨ e = 0xFD := by
  rw [PassesEchoed, pecCheck_hardware_xor_data, h, BitVec.xor_right_inj, pecLookup_pecTable_eq_self_iff]

/-- The read commands of the registers 0x01 to 0x0B (R236). -/
def readCommands : List Byte := [0x03, 0x05, 0x07, 0x09, 0x0B, 0x0D, 0x0F, 0x11, 0x13, 0x15, 0x17]

/-- The read commands with the echoes that R236 (c) lists for them. -/
def listedEchoes : List (Byte × Byte) :=
  [(0x03, 0x69), (0x03, 0x94), (0x05, 0x7C), (0x05, 0x81), (0x09, 0x56), (0x09, 0xAB), (0x0F, 0x43), (0x0F, 0xBE),
    (0x11, 0x02), (0x11, 0xFF), (0x17, 0x17), (0x17, 0xEA)]

/-- Each listed echo passes, and its partner is listed too. -/
theorem listed_passes_in_pairs {p : Byte × Byte} (hp : p ∈ listedEchoes) :
    PassesEchoed p.1 p.2 ∧ (p.1, p.2 ^^^ 0xFD) ∈ listedEchoes := by
  have hall : listedEchoes.all (fun p => pecCheck Params.hardware p.1 p.2 == p.2 &&
      listedEchoes.contains (p.1, p.2 ^^^ 0xFD)) = true := by decide
  have h := List.all_eq_true.mp hall p hp
  rwa [Bool.and_eq_true, beq_iff_eq, List.contains_iff_mem] at h

/-- Each read command of even weight has a listed echo. -/
theorem listed_of_even_readCommand :
    ∀ c ∈ readCommands, parity (bitsDown c 8) = false → c ∈ listedEchoes.map Prod.fst := by decide

/-- The echoes that pass for a read command are the listed ones. -/
theorem passesEchoed_iff_listed {c : Byte} (hc : c ∈ readCommands) (b : Byte) :
    PassesEchoed c b ↔ (c, b) ∈ listedEchoes := by
  constructor
  · intro h
    obtain ⟨⟨c, b₀⟩, hlisted, rfl⟩ := List.mem_map.mp (listed_of_even_readCommand c hc h.even_command)
    obtain ⟨hpasses, hpartner⟩ := listed_passes_in_pairs hlisted
    obtain ⟨e, rfl⟩ : ∃ e, b = b₀ ^^^ e := ⟨b₀ ^^^ b, (xor_cancel_left b₀ b).symm⟩
    rcases (hpasses.xor_iff e).mp h with rfl | rfl
    · exact (BitVec.xor_zero (x := b₀)).symm ▸ hlisted
    · exact hpartner
  · intro hlisted
    obtain ⟨hpasses, -⟩ := listed_passes_in_pairs hlisted
    exact hpasses

/-! ### A bus stuck high (R236 (b)) -/

/-- All ones read as IDAC_VLOW pass the check and decode to -63. -/
theorem getIdacVlow_stuck_high {s : State} {x : Byte} {rest : List Byte} (hP : s.params = Params.hardware)
    (htab : s.regtab = Config.regtab) (h : oracleAnswers s x 0xFF 0xFF rest) :
    ∃ t : State, exec .getIdacVlow s = .next t ∧ t.resp.flag = false ∧ t.resp.decoded = .value (-63) := by
  have hrow : findReg s.regtab 0x08 = some ⟨0x08, .idacVlow, .readWrite, .sm7⟩ := by rw [htab]; rfl
  have hopen : s.params.failClosed = false := by rw [hP]; rfl
  have hcheck : readCheck s 0x08 0xFF = 0xFF := (readCheck_ones_iff hP 0x08).mpr rfl
  refine ⟨getReg 0x08 s, rfl, ?_⟩
  rw [getReg_oracle hrow hopen h, hcheck, hP]
  exact ⟨rfl, rfl⟩

/-- Settles O59: 0x41 and 0x11 are the command bytes that pass all zeros and all ones; the other echoes come in pairs. -/
theorem stuckBusAnswers : Obligations.StuckBusAnswers :=
  ⟨pecCheck_hardware_zero_iff, by decide, pecCheck_hardware_ones_iff, fun _ b hc => passesEchoed_iff_listed hc b,
    fun _ _ _ hP htab h => getIdacVlow_stuck_high hP htab h⟩

end Sys2Proof.Proofs.ResetFamily
end

section
/-! PROOFS of the converters under the other readings of spec/93 U2 (`twosLow6`) and U3 (`offsetBinary`), with the clamp
range of log entry 21.

Either coding is two's complement or excess 16 in a narrower field, so each encoder is one remainder of the clamped value
(`sm7Encode_twosLow6_eq`, `b5Encode_offsetBinary_eq`) and the round trips are arithmetic. Where a coding agrees with this
hardware's follows from the equations of both. -/

namespace Sys2Proof.Proofs.VariantFamily

open Sys2Proof Sys2Proof.Machine Sys2Proof.Proofs.FieldFamily

/-! ### The two's complement reading of the sign-magnitude field (spec/93 U2) -/

/-- Under U2 the magnitude of a negative value is the two's complement of the low six bits. -/
theorem sm7Decode_twosLow6_eq (b : Byte) :
    sm7Decode .twosLow6 b =
      if b.toNat / 64 % 2 = 1 then -(((64 - b.toNat % 64) % 64 : Nat) : Int) else ((b.toNat % 64 : Nat) : Int) := by
  simp only [sm7Decode, getLsbD_eq_true_iff, toNat_extractLow, Nat.reducePow]

/-- Setting bit 6 over the low six bits of a negative value gives its low seven bits. -/
theorem or_0x40_twosComplement {v : Int} (hlo : -63 ≤ v) (hneg : v < 0) : 0x40#8 ||| u8 ((64 + v) % 64) =
    u8 (v % 128) := by
  have hlow : ((u8 ((64 + v) % 64)).toNat : Int) = 64 + v := (toNat_u8 (by omega) (by omega)).trans (by omega)
  rw [eq_u8_iff (by omega) (by omega), toNat_or_of_lt (n := 6) rfl (by omega)]
  omega

/-- Under U2 the encoder answers the low seven bits of the clamped value. -/
theorem sm7Encode_twosLow6_eq (val : Byte) :
    sm7Encode .twosLow6 val = u8 (max (-63) (min 63 val.toInt) % 128) := by
  have hclamp : clamp (s8 val) Config.sm7Min Config.sm7Max = max (-63) (min 63 val.toInt) :=
    clamp_eq_max_min _ (by decide)
  simp only [sm7Encode, hclamp]
  split
  case isTrue hnonneg => rw [Int.emod_eq_of_lt hnonneg (by omega)]
  case isFalse hneg => exact or_0x40_twosComplement (by omega) (by omega)

/-- Seven bits of two's complement determine a legal value. -/
theorem sm7Decode_twosLow6_u8 {v : Int} (hlo : -63 ≤ v) (hhi : v ≤ 63) : sm7Decode .twosLow6 (u8 (v % 128)) = v := by
  have hcode : ((u8 (v % 128)).toNat : Int) = v % 128 := toNat_u8 (by omega) (by omega)
  rw [sm7Decode_twosLow6_eq]
  split <;> omega

theorem sm7Decode_sm7Encode_twosLow6 (v : Byte) :
    sm7Decode .twosLow6 (sm7Encode .twosLow6 v) = max (-63) (min 63 v.toInt) := by
  rw [sm7Encode_twosLow6_eq, sm7Decode_twosLow6_u8 (by omega) (by omega)]

/-- A negative byte decodes alike where its magnitude is its own negation modulo 64: at 0 and 32. -/
theorem sm7Decode_twosLow6_eq_signMagnitude_iff (b : Byte) :
    sm7Decode .twosLow6 b = sm7Decode .signMagnitude b ↔
      (b.getLsbD 6 = false ∨ b &&& 0x7F = 0x40 ∨ b &&& 0x7F = 0x60) := by
  have hbits : (b &&& 0x7F).toNat = b.toNat % 128 := toNat_and_lowMask b (n := 7) rfl
  rw [sm7Decode_twosLow6_eq, sm7Decode_eq, ← Bool.not_eq_true, getLsbD_eq_true_iff, ← BitVec.toNat_inj,
    ← BitVec.toNat_inj, hbits]
  change _ ↔ ¬ b.toNat / 64 % 2 = 1 ∨ b.toNat % 128 = 64 ∨ b.toNat % 128 = 96
  split <;> omega

/-! ### The excess-16 reading of the biased field (spec/93 U3) -/

/-- Under U3 the value is the five-bit field with the bias added back, modulo 32. -/
theorem b5Decode_offsetBinary_eq (b : Byte) : b5Decode .offsetBinary b = ((b.toNat : Int) + 16) % 32 := by
  simp only [b5Decode, getLsbD_eq_true_iff, toNat_extractLow, Nat.reducePow, Config.b5Bias]
  split <;> omega

/-- Under U3 the encoder takes the bias off the clamped value, modulo 32. -/
theorem b5Encode_offsetBinary_eq (val : Byte) :
    b5Encode .offsetBinary val = u8 ((max 0 (min 31 val.toInt) - 16) % 32) := by
  have hclamp : clamp (s8 val) Config.b5Min Config.b5Max = max 0 (min 31 val.toInt) :=
    clamp_eq_max_min _ (by decide)
  simp only [b5Encode, hclamp, Config.b5Bias]

theorem b5Encode_offsetBinary_u8 {v : Int} (hlo : 0 ≤ v) (hhi : v ≤ 31) :
    b5Encode .offsetBinary (u8 v) = u8 ((v - 16) % 32) := by
  have hval : max 0 (min 31 (u8 v).toInt) = v := by
    rw [toInt_u8 (by omega) (by omega)]
    omega
  rw [b5Encode_offsetBinary_eq, hval]

theorem b5Decode_b5Encode_offsetBinary (v : Byte) :
    b5Decode .offsetBinary (b5Encode .offsetBinary v) = max 0 (min 31 v.toInt) := by
  rw [b5Encode_offsetBinary_eq, b5Decode_offsetBinary_eq, toNat_u8 (by omega) (by omega)]
  omega

/-- Encoding a decoded byte clears bits 7:5. -/
theorem b5Encode_b5Decode_offsetBinary (b : Byte) :
    b5Encode .offsetBinary (u8 (b5Decode .offsetBinary b)) = b &&& 0x1F := by
  have hfield : (b &&& 0x1F).toNat = b.toNat % 32 := toNat_and_lowMask b (n := 5) rfl
  rw [b5Decode_offsetBinary_eq, b5Encode_offsetBinary_u8 (by omega) (by omega)]
  exact ((eq_u8_iff (by omega) (by omega)).mpr (by omega)).symm

/-- Below the bias both codings set bit 4; from the bias on they agree where the excess is its own negation modulo 16: at
16 and 24. -/
theorem b5Encode_offsetBinary_eq_document_iff {v : Byte} (h : v.toNat ≤ 31) :
    b5Encode .offsetBinary v = b5Encode .document v ↔ (v.toNat ≤ 16 ∨ v.toNat = 24) := by
  have hcode := toNat_b5Code (v := v.toNat) (by omega) (by omega)
  rw [← u8_toNat v, b5Encode_offsetBinary_u8 (by omega) (by omega), b5Encode_u8 (by omega) (by omega), u8_toNat, eq_comm,
    eq_u8_iff (by omega) (by omega), hcode]
  split <;> omega

/-- Settles O39: each variant's round trip is its own clamp or field, and the agreement with this hardware is arithmetic. -/
theorem alternativeConvertersRoundTrip : Obligations.AlternativeConvertersRoundTrip :=
  ⟨sm7Decode_sm7Encode_twosLow6, b5Decode_b5Encode_offsetBinary, b5Encode_b5Decode_offsetBinary,
    sm7Decode_twosLow6_eq_signMagnitude_iff, fun _ h => b5Encode_offsetBinary_eq_document_iff h⟩

end Sys2Proof.Proofs.VariantFamily
end
